-- ==== Sys2Proof/Word.lean ====
section
/-! DEFINITION. The value types every other file uses: bytes, byte sequences, tokens, error kinds. -/

namespace Sys2Proof

/-- A byte, 0..255 (00_scope.md R10). -/
abbrev Byte := BitVec 8

/-- A finite sequence of bytes, indexed from 0 (00_scope.md R10). -/
abbrev ByteSeq := List Byte

/-- A token: a closed sum of two variants (40_token_codec.md R100). `backref L D` is the spec's
`Match(L, D)`: copy `L` bytes, each from `D` bytes behind the write cursor. -/
inductive Token where
  | literal (b : Byte)
  | backref (L D : Nat)
  deriving DecidableEq, Repr

/-- The error kinds of `COMPRESS`, `EncodeError` (60_exceptions.md R260). -/
inductive EncodeError where
  | outOfRange
  | sizeTooLarge
  deriving DecidableEq, Repr

/-- The error kinds of `DECOMPRESS`, `DecodeError` (60_exceptions.md R260). -/
inductive DecodeError where
  | badMagic
  | truncated
  | badDistance
  | sizeMismatch
  deriving DecidableEq, Repr

/-- One of the six error kinds of 60_exceptions.md R260. -/
inductive ErrorKind where
  | enc (e : EncodeError)
  | dec (e : DecodeError)
  deriving DecidableEq, Repr

/-- The parse mode (10_state.md R21, R33). -/
inductive Mode where
  | greedy
  | lazy
  deriving DecidableEq, Repr

/-- The command a descriptor names (10_state.md R21). -/
inductive Op where
  | compress
  | decompress
  deriving DecidableEq, Repr

end Sys2Proof
end

