-- ==== Sys2Proof/Config.lean ====
section
/-! DEFINITION. The constants of the wire format, the parameters a model takes as configuration
(00_scope.md R8, R9), and the one free value. -/

namespace Sys2Proof

/-- `MATCH_SEARCH` (00_scope.md R8; 43_lz77_match_finder.md R181, R190). -/
inductive MatchSearch where
  | exhaustive
  | anySound
  deriving DecidableEq, Repr

/-- The parameters of 00_scope.md R9. A machine state carries one (LOG 2); no step changes it. -/
structure Config where
  /-- `TAG`, the tag byte (30_encoding.md R72). -/
  tag : Byte
  /-- `PARSE_MODE`, the mode of a host that sets none (10_state.md R21, R33). -/
  parseMode : Mode
  /-- `MATCH_SEARCH`. -/
  matchSearch : MatchSearch
  /-- `ENC_MIN_DIST`, the smallest distance the encoder proposes (43_lz77_match_finder.md R183). -/
  encMinDist : Nat
  /-- `MAX_IN_LEN`; `none` is unbounded (20_memory.md R51). -/
  maxInLen : Option Nat
  deriving DecidableEq, Repr

namespace Config

/-- The values this hardware takes (00_scope.md R8).
PRESUMED tag value (LOG 1), DESIGN CHOICE of the spec for the rest (LOG 3 to LOG 7): unsafe for a
claim that names a value, safe for one that quantifies over `Config`. -/
def hardware : Config :=
  { tag := 0x10, parseMode := .lazy, matchSearch := .exhaustive, encMinDist := 1, maxInLen := none }

/-- `ENC_MIN_DIST` respects the token bound `1 ≤ distance` (00_scope.md R8; LOG 6). -/
abbrev wf (c : Config) : Prop := 1 ≤ c.encMinDist

/-- Free value: the candidate `(L, D)` a bounded search proposes under `MATCH_SEARCH = ANY_SOUND`, from
the positions its index holds, the input and the position (43_lz77_match_finder.md R190). It has no body:
nothing constrains it, and the finder keeps it only where it meets R189 (DESIGN CHOICE, safe; LOG 4). -/
opaque anySoundPick : List Nat → ByteSeq → Nat → Option (Nat × Nat)

end Config

/-! The constants fixed by the wire format (00_scope.md R8, R9). -/

/-- `MIN_MATCH`. -/
@[simp] abbrev minMatch : Nat := 3
/-- `MAX_MATCH`. -/
@[simp] abbrev maxMatch : Nat := 18
/-- `WINDOW`. -/
@[simp] abbrev windowSize : Nat := 4096
/-- `MIN_DIST`. -/
@[simp] abbrev minDist : Nat := 1
/-- `MAX_SIZE`. -/
@[simp] abbrev maxSize : Nat := 16777215
/-- `GROUP`. -/
@[simp] abbrev groupSize : Nat := 8
/-- `HDR_LEN`. -/
@[simp] abbrev hdrLen : Nat := 4

end Sys2Proof
end

