-- ==== Sys2Proof/Syntax.lean ====
section
/-! DEFINITION. The instructions: one constructor for each row of spec/opcode_table.json. -/

namespace Sys2Proof

/-- The 25 rows of the opcode table. The stream elements carry the fields their bytes encode; the unit
operations carry the operands their rule names; the steps COPY, ENC_START, ENC_PARSE and ENC_FLUSH have
no operand (their rules read unit state). -/
inductive Instr where
  /-- HDR, 42_lz77_decoder.md R152: the declared size (the tag is `TAG`, 30_encoding.md R71). -/
  | hdr (size : BitVec 24)
  /-- FLAGS, R153: the flag byte. -/
  | flags (f : Byte)
  /-- LIT, R155: the byte to append. -/
  | lit (b : Byte)
  /-- MATCH, R156: length and distance. -/
  | matchRef (L D : Nat)
  /-- COPY, R157. -/
  | copy
  /-- MK_LIT, 40_token_codec.md R102. -/
  | mkLit (b : Byte)
  /-- MK_MATCH, R103. -/
  | mkMatch (L D : Nat)
  /-- KIND, R104. -/
  | kind (t : Token)
  /-- PACK, R105. -/
  | pack (t : Token)
  /-- UNPACK_LIT, R106. -/
  | unpackLit (b0 : Byte)
  /-- UNPACK_MATCH, R107. -/
  | unpackMatch (b0 b1 : Byte)
  /-- DLEN, R108. -/
  | dlen (t : Token)
  /-- WRITE_HEADER, 41_stream_framer.md R120. -/
  | writeHeader (size : Nat)
  /-- READ_HEADER, R121. -/
  | readHeader (bytes : ByteSeq)
  /-- FLAGBYTE, R122. -/
  | flagByte (ts : List Token)
  /-- WRITE_TOKENS, R123. -/
  | writeTokens (ts : List Token)
  /-- READ_TOKENS, R124: the whole compressed input and the declared size. -/
  | readTokens (bytes : ByteSeq) (expected : BitVec 24)
  /-- FIND_MATCH, 43_lz77_match_finder.md R181: input, position, input length. -/
  | findMatch (input : ByteSeq) (p n : Nat)
  /-- CHOOSE_GREEDY, 44_lz77_encoder_parser.md R213. -/
  | chooseGreedy (input : ByteSeq) (p n : Nat)
  /-- CHOOSE_LAZY, R214. -/
  | chooseLazy (input : ByteSeq) (p n : Nat)
  /-- ENC_START, R211. -/
  | encStart
  /-- ENC_PARSE, R215. -/
  | encParse
  /-- ENC_FLUSH, R219. -/
  | encFlush
  /-- COMPRESS, 45_host_interface.md R241. -/
  | compress (mode : Mode) (input : ByteSeq)
  /-- DECOMPRESS, R242: `mode` is a field of the descriptor, ignored by the command. -/
  | decompress (mode : Mode) (input : ByteSeq)
  deriving DecidableEq, Repr

end Sys2Proof
end

