-- ==== Sys2Proof/WellFormed.lean ====
section
/-! DEFINITION. Which tokens and instructions are well formed. -/

namespace Sys2Proof

/-- The legality predicate of 40_token_codec.md R101. -/
def Token.valid : Token → Bool
  | .literal _ => true
  | .backref L D => decide (3 ≤ L ∧ L ≤ 18 ∧ 1 ≤ D ∧ D ≤ 4096)

/-- An instruction whose operands the spec gives a meaning: tokens are valid (R101), FLAGBYTE takes 1 to
8 tokens (41_stream_framer.md R122), `n` is the input's length and the position is in range
(43_lz77_match_finder.md R180, 44_lz77_encoder_parser.md R212). Every other operand may take every value. -/
def Instr.wf : Instr → Bool
  | .hdr _ => true
  | .flags _ => true
  | .lit _ => true
  | .matchRef L D => (Token.backref L D).valid
  | .copy => true
  | .mkLit _ => true
  | .mkMatch _ _ => true
  | .kind t => t.valid
  | .pack t => t.valid
  | .unpackLit _ => true
  | .unpackMatch _ _ => true
  | .dlen t => t.valid
  | .writeHeader _ => true
  | .readHeader _ => true
  | .flagByte ts => decide (1 ≤ ts.length ∧ ts.length ≤ 8) && ts.all Token.valid
  | .writeTokens ts => ts.all Token.valid
  | .readTokens _ _ => true
  | .findMatch input p n => decide (n = input.length ∧ p ≤ n)
  | .chooseGreedy input p n => decide (n = input.length ∧ p < n)
  | .chooseLazy input p n => decide (n = input.length ∧ p < n)
  | .encStart => true
  | .encParse => true
  | .encFlush => true
  | .compress _ _ => true
  | .decompress _ _ => true

end Sys2Proof
end

