-- ==== Sys2Proof/Decode.lean ====
section
/-! DEFINITION. Token payloads and headers as bits, the decoder of stream elements and of host command
descriptors, and the encoders (30_encoding.md; 40_token_codec.md R102 to R107; 41_stream_framer.md R120,
R121; 10_state.md R21). -/

namespace Sys2Proof

/-! ### Token constructors and payloads -/

/-- `MK_LIT` (40_token_codec.md R102): every byte is a legal literal. -/
def mkLit (b : Byte) : Except EncodeError Token := .ok (.literal b)

/-- `MK_MATCH` (R103): the legality check for producer and consumer. -/
def mkMatch (L D : Nat) : Except EncodeError Token :=
  if L < 3 ∨ 18 < L ∨ D < 1 ∨ 4096 < D then .error .outOfRange else .ok (.backref L D)

/-- The length a match payload's first byte carries (30_encoding.md R79): bits 7:4, biased by 3. -/
def payloadLength (b0 : Byte) : Nat := (b0.toNat >>> 4) + 3

/-- The distance a match payload carries (R79): 12 bits, high bits first, biased by 1. -/
def payloadDistance (b0 b1 : Byte) : Nat := (((b0.toNat &&& 0x0F) <<< 8) ||| b1.toNat) + 1

/-- `UNPACK_LIT` (R106). -/
def unpackLit (b0 : Byte) : Token := .literal b0

/-- `UNPACK_MATCH` (R107): the payload's fields through `MK_MATCH`. -/
def unpackMatch (b0 b1 : Byte) : Except EncodeError Token :=
  mkMatch (payloadLength b0) (payloadDistance b0 b1)

/-- `PACK` (R105; 30_encoding.md R77, R78). -/
def packToken : Token → ByteSeq
  | .literal b => [b]
  | .backref L D =>
    [BitVec.ofNat 8 (((L - 3) <<< 4) ||| ((D - 1) >>> 8)), BitVec.ofNat 8 ((D - 1) &&& 0xFF)]

/-! ### The header -/

/-- The four header bytes (30_encoding.md R71, R74; 20_memory.md R56). -/
def headerBytes (tag : Byte) (size : Nat) : ByteSeq :=
  [tag, BitVec.ofNat 8 (size &&& 0xFF), BitVec.ofNat 8 ((size >>> 8) &&& 0xFF),
    BitVec.ofNat 8 ((size >>> 16) &&& 0xFF)]

/-- The little-endian size field (R73; R56). -/
def headerSize (b1 b2 b3 : Byte) : BitVec 24 :=
  b1.setWidth 24 ||| (b2.setWidth 24 <<< 8) ||| (b3.setWidth 24 <<< 16)

/-- `WRITE_HEADER` (41_stream_framer.md R120). -/
def writeHeader (tag : Byte) (size : Nat) : Except EncodeError ByteSeq :=
  if maxSize < size then .error .sizeTooLarge else .ok (headerBytes tag size)

/-- `READ_HEADER` (R121): the tag is checked first whenever byte 0 exists. -/
def readHeader (tag : Byte) : ByteSeq → Except DecodeError (BitVec 24)
  | [] => .error .truncated
  | b0 :: rest =>
    if b0 ≠ tag then .error .badMagic
    else
      match rest with
      | b1 :: b2 :: b3 :: _ => .ok (headerSize b1 b2 b3)
      | _ => .error .truncated

/-! ### Stream elements -/

/-- What the decoder looks for, told by position and by the current flag bit (30_encoding.md R81, R86,
R88). `token true` is a match payload. -/
inductive Slot where
  | header
  | flagByte
  | token (isMatch : Bool)
  deriving DecidableEq, Repr

/-- The length of the element a slot holds (R81, R88). -/
def Slot.size : Slot → Nat
  | .header => 4
  | .flagByte => 1
  | .token false => 1
  | .token true => 2

/-- The encoding-level rejections of a stream; there is no other (30_encoding.md R85). -/
inductive Reject where
  | badMagic
  | truncated
  deriving DecidableEq, Repr

/-- The error a rejection raises (R85; 60_exceptions.md R264, R265). -/
def Reject.toError : Reject → DecodeError
  | .badMagic => .badMagic
  | .truncated => .truncated

/-- The element at the start of `bytes`, as an instruction, and the bytes after it; total, and rejecting
by name. Header: R71 to R73 with the tag checked first (41_stream_framer.md R121). -/
def decode (tag : Byte) : Slot → ByteSeq → Except Reject (Instr × ByteSeq)
  | .header, bytes =>
    match readHeader tag bytes with
    | .ok size => .ok (.hdr size, bytes.drop 4)
    | .error .badMagic => .error .badMagic
    | .error _ => .error .truncated
  | .flagByte, b :: rest => .ok (.flags b, rest)
  | .token false, b :: rest => .ok (.lit b, rest)
  | .token true, b0 :: b1 :: rest => .ok (.matchRef (payloadLength b0) (payloadDistance b0 b1), rest)
  | _, _ => .error .truncated

/-- The slot and the bytes of a well-formed instruction that is a stream element; the table gives every
other row "none" as its encoding (30_encoding.md R71, R75, R77, R78, R88). -/
def encode (tag : Byte) : Instr → Option (Slot × ByteSeq)
  | .hdr size => some (.header, headerBytes tag size.toNat)
  | .flags f => some (.flagByte, [f])
  | .lit b => some (.token false, packToken (.literal b))
  | .matchRef L D => some (.token true, packToken (.backref L D))
  | _ => none

/-! ### Host command descriptors -/

/-- A command descriptor as the host writes it (10_state.md R21): the `op` code, the `mode` code where the
host sets one, the input buffer; and whether the host lets that buffer alias the output, which it must not
(20_memory.md R65; LOG 11). -/
structure Command where
  op : Nat
  mode : Option Nat
  input : ByteSeq
  aliasesOutput : Bool
  deriving DecidableEq, Repr

/-- The descriptor codes with no meaning (60_exceptions.md R274). -/
inductive CommandReject where
  | unknownOp
  | unknownMode
  deriving DecidableEq, Repr

/-- The mode a descriptor selects: code 0 GREEDY, 1 LAZY, none set is `PARSE_MODE` (R21). -/
def decodeMode (cfg : Config) : Option Nat → Except CommandReject Mode
  | none => .ok cfg.parseMode
  | some 0 => .ok .greedy
  | some 1 => .ok .lazy
  | some _ => .error .unknownMode

/-- The host command a descriptor names (R21, 45_host_interface.md R241, R242). An illegal mode code is
refused for DECOMPRESS too: R21 and R274 make no exception (DEDUCED, safe; LOG 18). An unknown op is reported before
an unknown mode (DESIGN CHOICE, safe; LOG 27). -/
def decodeCommand (cfg : Config) (c : Command) : Except CommandReject Instr :=
  match c.op, decodeMode cfg c.mode with
  | 0, .ok m => .ok (.compress m c.input)
  | 1, .ok m => .ok (.decompress m c.input)
  | 0, .error e => .error e
  | 1, .error e => .error e
  | _, _ => .error .unknownOp

/-- The mode's code (R21). -/
def Mode.code : Mode → Nat
  | .greedy => 0
  | .lazy => 1

/-- The op's code (R21). -/
def Op.code : Op → Nat
  | .compress => 0
  | .decompress => 1

/-- The descriptor of a host command. -/
def encodeCommand : Instr → Option Command
  | .compress m input => some ⟨Op.compress.code, some m.code, input, false⟩
  | .decompress m input => some ⟨Op.decompress.code, some m.code, input, false⟩
  | _ => none

/-! ### Words as spec/opcode_table.json numbers them

The table fixes bits of two rows only: LIT (`match` 0, `mask` 1) and MATCH (`match` 1, `mask` 1). That bit
is the flag bit that selects the payload (30_encoding.md R88), numbered as the word's bit 0; the payload is
the word's bytes. A word of more than two bytes can only be a header. FLAGS has no fixed bit and is told
from LIT by position alone, so a one-byte word is read as a payload (DESIGN CHOICE; LOG 23). -/

/-- The word's bytes, the first in the low bits, zero above `nbits`. -/
def tableBytes (nbits w : Nat) : ByteSeq :=
  let v := w % 2 ^ nbits
  [BitVec.ofNat 8 v, BitVec.ofNat 8 (v >>> 8), BitVec.ofNat 8 (v >>> 16), BitVec.ofNat 8 (v >>> 24)]

/-- The slot a table word stands in. -/
def tableSlot (nbits w : Nat) : Slot :=
  if 16 < nbits then .header else .token (w.testBit 0)

/-- The instruction the decoder reads from a table word, with this hardware's tag. -/
def decodeTableWord (nbits w : Nat) : Option Instr :=
  if nbits = 0 then none
  else
    match decode Config.hardware.tag (tableSlot nbits w) (tableBytes nbits w) with
    | .ok (i, _) => some i
    | .error _ => none

end Sys2Proof
end

