-- ==== Sys2Proof/Machine/State.lean ====
section
/-! DEFINITION. The machine's state (10_state.md R20 to R42), its reset value, and the reasons a step can
stop. -/

namespace Sys2Proof.Machine

/-- The block phase (10_state.md R20). -/
inductive BlockPhase where
  | idle
  | busy
  deriving DecidableEq, Repr

/-- The decoder's phase (R25). -/
inductive DecPhase where
  | expectHeader
  | expectFlagGroup
  | inGroup
  | copying
  | done
  | failed
  deriving DecidableEq, Repr

/-- The encoder's phase (R31). -/
inductive EncPhase where
  | start
  | parse
  | flush
  | done
  | failed
  deriving DecidableEq, Repr

/-- The result descriptor's `status` (R22). -/
inductive Status where
  | ok
  | error (e : ErrorKind)
  deriving DecidableEq, Repr

/-- What a unit operation returns: `Ok` of a value, or `Err` (00_scope.md R13). `none`: no unit operation has
been executed by itself (LOG 10). -/
inductive UnitResult where
  | none
  /-- MK_LIT, MK_MATCH, UNPACK_LIT, UNPACK_MATCH, FIND_MATCH with a match, CHOOSE_GREEDY, CHOOSE_LAZY. -/
  | token (t : Token)
  /-- KIND: the flag bit, `true` for 1. -/
  | flagBit (b : Bool)
  /-- PACK, WRITE_HEADER, WRITE_TOKENS. -/
  | bytes (bs : ByteSeq)
  /-- FLAGBYTE. -/
  | byte (b : Byte)
  /-- DLEN. -/
  | length (k : Nat)
  /-- READ_HEADER. -/
  | size (k : BitVec 24)
  /-- READ_TOKENS: the tokens, the bytes described, the next index. -/
  | parsed (ts : List Token) (described next : Nat)
  /-- FIND_MATCH without a match. -/
  | noMatch
  /-- `Err(e)`. -/
  | err (e : ErrorKind)
  deriving DecidableEq, Repr

/-- What the host does (45_host_interface.md R240, R246), in the order it does it; the model's own form of
the host's side (LOG 11). -/
inductive HostAction where
  /-- Issue a command now, whatever the core is doing. -/
  | issue (c : Command)
  /-- Write byte `b` at index `i` of its input buffer now. -/
  | writeInput (i : Nat) (b : Byte)
  /-- Leave the core alone for one step. -/
  | pass
  /-- Leave the core alone until `blk = IDLE`. -/
  | await
  deriving DecidableEq, Repr

/-- The machine's whole state. `in` is written `inp`. The registers are those of 10_state.md; `cfg`, `ures`
and `host` are the model's own fields (LOG 2, LOG 10, LOG 11). -/
structure State where
  /-- Configuration (00_scope.md R9); no step changes it. -/
  cfg : Config
  /-- R20. -/
  blk : BlockPhase
  /-- Command descriptor, R21. -/
  op : Op
  mode : Mode
  inp : ByteSeq
  /-- Whether the result descriptor holds a result (R22, R41, R290; LOG 9). -/
  resultValid : Bool
  /-- Result descriptor, R22. -/
  status : Status
  output : ByteSeq
  /-- Decoder, R24 to R30. -/
  dph : DecPhase
  ip : Nat
  dsize : BitVec 24
  out : ByteSeq
  flags : BitVec 8
  nbit : BitVec 4
  crem : BitVec 5
  cdist : BitVec 13
  derr : DecodeError
  /-- Encoder, R31 to R36. -/
  eph : EncPhase
  p : Nat
  emode : Mode
  grp : List Token
  eout : ByteSeq
  eerr : EncodeError
  /-- Match index: the positions it holds (R38; LOG 5). -/
  idx : List Nat
  /-- The result of the last unit operation executed by itself (00_scope.md R13; LOG 10). -/
  ures : UnitResult
  /-- The host's coming actions (LOG 11). -/
  host : List HostAction
  deriving DecidableEq, Repr

/-- The encoder's input length `n = |in|` (R32). -/
abbrev State.n (s : State) : Nat := s.inp.length

/-- The machine right after hardware reset: `blk = IDLE`, no result valid (70_reset_and_hazards.md R290,
10_state.md R41). The spec leaves every other register unspecified; each holds the value named in LOG 8
(DESIGN CHOICE, unsafe). -/
def State.reset : State :=
  { cfg := Config.hardware
    blk := .idle
    op := .compress, mode := .lazy, inp := []
    resultValid := false, status := .ok, output := []
    dph := .expectHeader, ip := 0, dsize := 0, out := [], flags := 0, nbit := 0, crem := 0, cdist := 0
    derr := .badMagic
    eph := .start, p := 0, emode := .lazy, grp := [], eout := [], eerr := .outOfRange
    idx := []
    ures := .none
    host := [] }

/-- Faults of the model (20_memory.md R52, R53): the spec calls each of these reads undefined and says a
model faults. Safe: the machine stops, no value is invented. -/
inductive Fault where
  /-- `InRead(i)` with `i ≥ |in|` (R52). Raised by ENC_PARSE, CHOOSE_GREEDY and CHOOSE_LAZY. Safe. -/
  | inReadOutOfRange
  /-- `OutRead(i)` with `i ≥ |out|` or before index 0 (R53). Raised by COPY. Safe. -/
  | outReadOutOfRange
  deriving DecidableEq, Repr

/-- Refusals of the model (60_exceptions.md R274). Each is safe: nothing is claimed of what the core does. -/
inductive Refusal where
  /-- An instruction with no meaning yet; raised by no arm of exec. Safe. -/
  | notModelled (mnemonic : String)
  /-- An `op` code other than 0 or 1 (R274 a). Raised when a command is issued. Safe. -/
  | unknownOp
  /-- A `mode` code other than 0 or 1 (R274 a). Raised when a command is issued. Safe. -/
  | unknownMode
  /-- A command issued while `blk = BUSY` (R274 b). Raised by COMPRESS, DECOMPRESS and the host port. Safe. -/
  | commandWhileBusy
  /-- The input buffer written during a command (R274 c). Raised by the host port. Safe. -/
  | inputChanged
  /-- The input buffer aliases the output buffer (R274 c). Raised when a command is issued. Safe. -/
  | bufferAliased
  /-- An input longer than a bounded `MAX_IN_LEN`, no legal value of `in` (10_state.md R21; LOG 7). Raised by
  COMPRESS and DECOMPRESS. Safe. -/
  | inputTooLong
  /-- A read of the result descriptor where it holds no value (R22, R274 d). Raised by the host's reads. Safe. -/
  | resultUnreadable
  /-- A read from outside of a register that R41 leaves unspecified, before its first write: R274 (d) refuses it,
  R26 faults. Raised by `State.readReg`, which no instruction uses. Safe. -/
  | registerUnspecified
  /-- A decoder or encoder step outside the phase that selects it (42_lz77_decoder.md R151, R154;
  44_lz77_encoder_parser.md R210; LOG 16). Raised by HDR, FLAGS, LIT, MATCH, COPY, ENC_START, ENC_PARSE,
  ENC_FLUSH. Safe. -/
  | noStepInPhase
  /-- An operand the spec gives no meaning: an invalid token (40_token_codec.md R101), a FLAGBYTE of no or more
  than 8 tokens (R122), a position past the input (R180, R212; LOG 17). Raised by the operations that take
  one. Safe. -/
  | illFormedOperand
  deriving DecidableEq, Repr

end Sys2Proof.Machine
end

