-- ==== Sys2Proof/Machine/Flags.lean ====
section
/-! DEFINITION. The only flags of the core: the bits of a flag byte (10_state.md R28, R42). -/

namespace Sys2Proof.Machine

/-- `KIND(t)`, the token's flag bit (40_token_codec.md R104): `true` is 1, a match. -/
def kindBit : Token → Bool
  | .literal _ => false
  | .backref _ _ => true

/-- Bit `7 - k` of a flag byte: the kind of the group's token `k`, `k < 8` (10_state.md R28; 20_memory.md R58). -/
def flagBit (F : Byte) (k : Nat) : Bool := F.getLsbD (7 - k)

/-- `Σ KIND(t_j) << (7 - j)` for the tokens from position `k` on (41_stream_framer.md R122). -/
def flagSum : Nat → List Token → Nat
  | _, [] => 0
  | k, t :: ts => ((kindBit t).toNat <<< (7 - k)) + flagSum (k + 1) ts

/-- `FLAGBYTE` of 1 to 8 tokens (R122): unused bits are 0. -/
def flagByte (ts : List Token) : Byte := BitVec.ofNat 8 (flagSum 0 ts)

/-- The kind of the token the decoder is about to read: `flags[7 - nbit]`, where `nbit < 8`
(42_lz77_decoder.md R154). -/
def State.nextKind (s : State) : Option Bool :=
  if s.nbit.toNat < 8 then some (flagBit s.flags s.nbit.toNat) else none

end Sys2Proof.Machine
end

