-- ==== Sys2Proof/Machine/Operands.lean ====
section
/-! DEFINITION. How operands are reached: the two byte spaces and their only accesses (20_memory.md R50 to
R54), and the (address, byte) view of a buffer. -/

namespace Sys2Proof.Machine

/-- `InRead(i)`: `in[i]`, defined only for `i < |in|` (20_memory.md R52). -/
def State.inRead (s : State) (i : Nat) : Option Byte := s.inp[i]?

/-- `OutRead(i)`: `out[i]`, defined only for `i < |out|` (R53). -/
def State.outRead (s : State) (i : Nat) : Option Byte := s.out[i]?

/-- `OutRead(|out| - d)`, the copy's read; no value where the index would fall before 0 (R53). -/
def State.outReadBack (s : State) (d : Nat) : Option Byte :=
  if d ≤ s.out.length then s.outRead (s.out.length - d) else none

/-- `OutAppend(b)` (R54): the decoder's only write. -/
def State.outAppend (s : State) (b : Byte) : State := { s with out := s.out ++ [b] }

/-- `Emit(b)` for each byte of `bs`, in order (R54): the encoder's only write. -/
def State.emit (s : State) (bs : ByteSeq) : State := { s with eout := s.eout ++ bs }

/-- A buffer as cells: index and byte, indices rising from `i` (LOG 19). -/
def cellsFrom : Nat → ByteSeq → List Host.Cell
  | _, [] => []
  | i, b :: bs => (i, b) :: cellsFrom (i + 1) bs

/-- A buffer as cells of its address space `0 .. |buffer| - 1` (R50). -/
def cells (bs : ByteSeq) : List Host.Cell := cellsFrom 0 bs

/-- The canonical form of a list of cells: addresses strictly rising. No value stands for an unlisted
address: a read there is undefined (R52, R53), so no entry can equal it. -/
def Memory.wf : List Host.Cell → Bool
  | [] => true
  | [_] => true
  | a :: b :: rest => decide (a.1 < b.1) && Memory.wf (b :: rest)

end Sys2Proof.Machine
end

