-- ==== Sys2Proof/Machine/Ops.lean ====
section
/-! DEFINITION. The shared operations: raising an error and completing a command (60_exceptions.md R266,
R272; 45_host_interface.md R243), starting one (R240, 10_state.md R40), the decoder's token boundary
(42_lz77_decoder.md R158), a unit operation's result (00_scope.md R13), and checked reads (R274). -/

namespace Sys2Proof.Machine

/-- The outcome type of every meaning. -/
abbrev Res := Host.Outcome State Fault Refusal

/-! ### Errors: entry and return -/

/-- Raise an error (60_exceptions.md R266; `fail(e)` of 42_lz77_decoder.md and 44_lz77_encoder_parser.md): the
kind into the unit's error register, the unit to FAILED, nothing else. -/
def raise (e : ErrorKind) (s : State) : State :=
  match e with
  | .dec e => { s with derr := e, dph := .failed }
  | .enc e => { s with eerr := e, eph := .failed }

/-- Write the result descriptor and end the command (45_host_interface.md R243). -/
def finish (st : Status) (bs : ByteSeq) (s : State) : State :=
  { s with blk := .idle, resultValid := true, status := st, output := bs }

/-- Completion (R243), the return from an error too (60_exceptions.md R272, R273): where the running unit is
DONE the status is OK with its output (42_lz77_decoder.md R159, 44_lz77_encoder_parser.md R220), where it is
FAILED the status is its error and there is no output (R160, R220; LOG 21). `none` where it has not ended. -/
def complete (s : State) : Option State :=
  match s.op with
  | .decompress =>
    match s.dph with
    | .done => some (finish .ok s.out s)
    | .failed => some (finish (.error (.dec s.derr)) [] s)
    | _ => none
  | .compress =>
    match s.eph with
    | .done => some (finish .ok s.eout s)
    | .failed => some (finish (.error (.enc s.eerr)) [] s)
    | _ => none

/-! ### Starting a command -/

/-- The unit state at command start (10_state.md R40). The registers R41 leaves unspecified there take the
values they have at reset, so that nothing of the command before survives (R23, 70_reset_and_hazards.md R291;
DEDUCED, unsafe only for a claim that reads them; LOG 20). -/
def initUnits (mode : Mode) (s : State) : State :=
  { s with
    dph := .expectHeader, ip := 0, dsize := 0, out := [], flags := 0, nbit := 0, crem := 0, cdist := 0
    derr := .badMagic
    eph := .start, p := 0, emode := mode, grp := [], eout := [], eerr := .outOfRange
    idx := [] }

/-- The state of a command just issued (45_host_interface.md R240): the descriptor written, `blk` BUSY, the
units at their initial state; the result descriptor unchanged (10_state.md R41). -/
def started (op : Op) (mode : Mode) (input : ByteSeq) (s : State) : State :=
  initUnits mode { s with blk := .busy, op := op, mode := mode, inp := input }

/-- Whether an input length is legal (10_state.md R21: bounded only by `MAX_IN_LEN`). -/
def lengthLegal (cfg : Config) (len : Nat) : Bool :=
  match cfg.maxInLen with
  | none => true
  | some bound => decide (len ≤ bound)

/-- Issue a command (R240): accepted only in IDLE (10_state.md R20, 60_exceptions.md R274). -/
def issue (op : Op) (mode : Mode) (input : ByteSeq) (s : State) : Res :=
  match s.blk with
  | .busy => .refused .commandWhileBusy
  | .idle =>
    if lengthLegal s.cfg input.length then .next (started op mode input s) else .refused .inputTooLong

/-! ### Steps of the units -/

/-- The decoder is running and in phase `ph`. -/
def State.decoderIn (s : State) (ph : DecPhase) : Bool :=
  decide (s.blk = .busy ∧ s.op = .decompress ∧ s.dph = ph)

/-- The encoder is running and in phase `ph`. -/
def State.encoderIn (s : State) (ph : EncPhase) : Bool :=
  decide (s.blk = .busy ∧ s.op = .compress ∧ s.eph = ph)

/-- The decoder is about to read a token of kind `k` (42_lz77_decoder.md R154). -/
def State.tokenDue (s : State) (k : Bool) : Bool :=
  s.decoderIn .inGroup && decide (s.nextKind = some k)

/-- `BOUNDARY()` (R158): the declared size is checked first, then the end of the group. -/
def boundary (s : State) : State :=
  { s with
    dph :=
      if s.out.length = s.dsize.toNat then .done
      else if s.nbit.toNat = 8 then .expectFlagGroup
      else .inGroup }

/-- One more token of the group is consumed. -/
def State.countToken (s : State) : State := { s with nbit := s.nbit + 1 }

/-! ### Unit operations executed by themselves -/

/-- A unit operation returns: its result is all it writes (00_scope.md R13, 10_state.md R39; LOG 10). -/
def returns (r : UnitResult) (s : State) : Res := .next { s with ures := r }

/-- `Ok(t)` or `Err(e)` of a token constructor (R13). -/
def tokenResult : Except EncodeError Token → UnitResult
  | .ok t => .token t
  | .error e => .err (.enc e)

/-! ### Codes and checked reads -/

/-- The status codes (60_exceptions.md R260, R261). -/
def errorCode : ErrorKind → Nat
  | .enc .outOfRange => 1
  | .enc .sizeTooLarge => 2
  | .dec .badMagic => 3
  | .dec .truncated => 4
  | .dec .badDistance => 5
  | .dec .sizeMismatch => 6

/-- The status code of the result descriptor (10_state.md R22). -/
def Status.code : Status → Nat
  | .ok => 0
  | .error e => errorCode e

/-- The host reads `status`: only after a command has completed (70_reset_and_hazards.md R290). -/
def State.readStatus (s : State) : Except Refusal Status :=
  if s.resultValid then .ok s.status else .error .resultUnreadable

/-- The host reads `output`: only when `status = OK` (10_state.md R22, 60_exceptions.md R274). -/
def State.readOutput (s : State) : Except Refusal ByteSeq :=
  if s.resultValid ∧ s.status = .ok then .ok s.output else .error .resultUnreadable

/-- The registers that 10_state.md R41 leaves unspecified at reset or at command start, but for the result
descriptor, which has reads of its own, and the index, which is hidden (R38). -/
inductive Reg where
  | op | mode | inp
  | dph | ip | dsize | out | flags | nbit | crem | cdist | derr
  | eph | p | emode | grp | eout | eerr
  deriving DecidableEq, Repr

/-- Some command has started since hardware reset: one is running or has completed (10_state.md R41, R290). -/
def State.commandSeen (s : State) : Bool := decide (s.blk = .busy) || s.resultValid

/-- Whether a register has been written (R41): every register but seven by the first command start, which writes
the descriptor and initialises both units (R40); then, within the command, `dsize` by the header step (R26, which
moves `ip` to 4), `flags` and `nbit` by the first flag-byte step (R28, which moves `ip` to 5 or beyond), `crem` and
`cdist` by the first match step that starts a copy (R29: `cdist` is 1 or more from then on), the error registers
where the unit is FAILED (R30, R36). A written register stays readable until the next command start, in the other
phases and in IDLE too, and so do the other unit's initial values (DEDUCED; LOG 22). -/
def State.written (s : State) (r : Reg) : Bool :=
  match r with
  | .op => s.commandSeen
  | .mode => s.commandSeen
  | .inp => s.commandSeen
  | .dph => s.commandSeen
  | .ip => s.commandSeen
  | .out => s.commandSeen
  | .dsize => s.commandSeen && decide (4 ≤ s.ip)
  | .flags => s.commandSeen && decide (5 ≤ s.ip)
  | .nbit => s.commandSeen && decide (5 ≤ s.ip)
  | .crem => s.commandSeen && decide (s.cdist ≠ 0)
  | .cdist => s.commandSeen && decide (s.cdist ≠ 0)
  | .derr => s.commandSeen && decide (s.dph = .failed)
  | .eph => s.commandSeen
  | .p => s.commandSeen
  | .emode => s.commandSeen
  | .grp => s.commandSeen
  | .eout => s.commandSeen
  | .eerr => s.commandSeen && decide (s.eph = .failed)

/-- The value of a register. -/
inductive RegValue where
  | decPhase (v : DecPhase)
  | encPhase (v : EncPhase)
  | nat (v : Nat)
  | bytes (v : ByteSeq)
  | tokens (v : List Token)
  | op (v : Op)
  | mode (v : Mode)
  | decodeError (v : DecodeError)
  | encodeError (v : EncodeError)
  deriving DecidableEq, Repr

/-- What a register holds. -/
def State.regValue (s : State) : Reg → RegValue
  | .op => .op s.op
  | .mode => .mode s.mode
  | .inp => .bytes s.inp
  | .dph => .decPhase s.dph
  | .ip => .nat s.ip
  | .dsize => .nat s.dsize.toNat
  | .out => .bytes s.out
  | .flags => .nat s.flags.toNat
  | .nbit => .nat s.nbit.toNat
  | .crem => .nat s.crem.toNat
  | .cdist => .nat s.cdist.toNat
  | .derr => .decodeError s.derr
  | .eph => .encPhase s.eph
  | .p => .nat s.p
  | .emode => .mode s.emode
  | .grp => .tokens s.grp
  | .eout => .bytes s.eout
  | .eerr => .encodeError s.eerr

/-- Read a register from outside; no instruction reads this way. Refused where R41 leaves the register unspecified
and nothing has written it: 60_exceptions.md R274 (d) refuses that read, "never given a value" (LOG 22). -/
def State.readReg (s : State) (r : Reg) : Except Refusal RegValue :=
  if s.written r then .ok (s.regValue r) else .error .registerUnspecified

end Sys2Proof.Machine
end

