-- ==== Sys2Proof/Machine/TokenCodec.lean ====
section
/-! DEFINITION. The token codec's operations (40_token_codec.md). They read only their operands and write only
their result. -/

namespace Sys2Proof.Machine

/-- `DLEN(t)`, the number of output bytes a token describes (R108). -/
def dlen : Token → Nat
  | .literal _ => 1
  | .backref L _ => L

/-- An operation on a token: a token that is not valid is never executed (R101). -/
def onToken (t : Token) (r : UnitResult) (s : State) : Res :=
  if t.valid then returns r s else .refused .illFormedOperand

/-- MK_LIT (R102). -/
def execMkLit (b : Byte) (s : State) : Res := returns (tokenResult (mkLit b)) s

/-- MK_MATCH (R103). -/
def execMkMatch (L D : Nat) (s : State) : Res := returns (tokenResult (mkMatch L D)) s

/-- KIND (R104). -/
def execKind (t : Token) (s : State) : Res := onToken t (.flagBit (kindBit t)) s

/-- PACK (R105). -/
def execPack (t : Token) (s : State) : Res := onToken t (.bytes (packToken t)) s

/-- UNPACK_LIT (R106). -/
def execUnpackLit (b0 : Byte) (s : State) : Res := returns (.token (unpackLit b0)) s

/-- UNPACK_MATCH (R107). -/
def execUnpackMatch (b0 b1 : Byte) (s : State) : Res := returns (tokenResult (unpackMatch b0 b1)) s

/-- DLEN (R108). -/
def execDlen (t : Token) (s : State) : Res := onToken t (.length (dlen t)) s

end Sys2Proof.Machine
end

