-- ==== Sys2Proof/Machine/Decoder.lean ====
section
/-! DEFINITION. The decoder's steps (42_lz77_decoder.md R152 to R158). An element's bytes have been fetched:
that they exist, and that the tag is `TAG`, is the fetch's check (Machine/Fetch.lean; LOG 15). -/

namespace Sys2Proof.Machine

/-- HDR, the header step (R152). -/
def execHdr (size : BitVec 24) (s : State) : Res :=
  if s.decoderIn .expectHeader then
    .next { s with dsize := size, ip := 4, dph := if size = 0 then .done else .expectFlagGroup }
  else .refused .noStepInPhase

/-- FLAGS, the flag-byte step (R153). -/
def execFlags (f : Byte) (s : State) : Res :=
  if s.decoderIn .expectFlagGroup then
    .next { s with flags := f, ip := s.ip + 1, nbit := 0, dph := .inGroup }
  else .refused .noStepInPhase

/-- LIT, the literal step (R155). -/
def execLit (b : Byte) (s : State) : Res :=
  if s.tokenDue false then
    .next (boundary (State.countToken (State.outAppend { s with ip := s.ip + 1 } b)))
  else .refused .noStepInPhase

/-- Start copying `L` bytes from distance `D` (R156). -/
def startCopy (L D : Nat) (s : State) : State :=
  { s with crem := BitVec.ofNat 5 L, cdist := BitVec.ofNat 13 D, nbit := s.nbit + 1, dph := .copying }

/-- MATCH, the match step (R156): `BadDistance` (R162), then `SizeMismatch` (R163), each before any byte is
copied; the payload is consumed first. A match that is not valid is never executed (40_token_codec.md R101). -/
def execMatchRef (L D : Nat) (s : State) : Res :=
  if (Token.backref L D).valid then
    if s.tokenDue true then
      if s.out.length < D then .next (raise (.dec .badDistance) { s with ip := s.ip + 2 })
      else if s.dsize.toNat < s.out.length + L then
        .next (raise (.dec .sizeMismatch) { s with ip := s.ip + 2 })
      else .next (startCopy L D { s with ip := s.ip + 2 })
    else .refused .noStepInPhase
  else .refused .illFormedOperand

/-- One byte copied (R157). -/
def copyByte (b : Byte) (s : State) : State :=
  State.outAppend { s with crem := s.crem - 1 } b

/-- COPY, the copy step (R157): a byte is left to copy. -/
def execCopy (s : State) : Res :=
  if s.decoderIn .copying && decide (s.crem ≠ 0) then
    match s.outReadBack s.cdist.toNat with
    | none => .fault .outReadOutOfRange
    | some b => .next (if s.crem = 1 then boundary (copyByte b s) else copyByte b s)
  else .refused .noStepInPhase

end Sys2Proof.Machine
end

