-- ==== Sys2Proof/Machine/Framer.lean ====
section
/-! DEFINITION. The stream framer's operations (41_stream_framer.md). -/

namespace Sys2Proof.Machine

/-- The payloads of a group's tokens, in order. -/
def payloads (ts : List Token) : ByteSeq := ts.flatMap packToken

/-- One flag group: the flag byte, then the payloads (30_encoding.md R75). -/
def writeGroup (ts : List Token) : ByteSeq := flagByte ts :: payloads ts

/-- The groups of a token list, at most `fuel` of them; a new group after every 8th token (R123, R127). -/
def writeGroups : Nat → List Token → ByteSeq
  | 0, _ => []
  | _ + 1, [] => []
  | fuel + 1, t :: ts => writeGroup ((t :: ts).take 8) ++ writeGroups fuel ((t :: ts).drop 8)

/-- `WRITE_TOKENS` (R123). A list has no more groups than tokens. -/
def writeTokens (ts : List Token) : ByteSeq := writeGroups ts.length ts

/-- The progress of `READ_TOKENS` (R124): the tokens read, the bytes they describe, the next index. -/
structure ReadProgress where
  toks : List Token
  described : Nat
  next : Nat
  deriving DecidableEq, Repr

/-- One token read (R124). -/
def ReadProgress.push (r : ReadProgress) (t : Token) (len : Nat) : ReadProgress :=
  { toks := r.toks ++ [t], described := r.described + dlen t, next := r.next + len }

/-- One payload at `r.next`, a match's where `isMatch` (R124); `Truncated` where a byte is missing. -/
def readPayload (bytes : ByteSeq) (isMatch : Bool) (r : ReadProgress) : Except DecodeError ReadProgress :=
  match isMatch, bytes[r.next]?, bytes[r.next + 1]? with
  | false, some b, _ => .ok (r.push (unpackLit b) 1)
  | true, some b0, some b1 => .ok (r.push (.backref (payloadLength b0) (payloadDistance b0 b1)) 2)
  | _, _, _ => .error .truncated

/-- The tokens of one group, `left` of its flag bits unread, while fewer bytes than expected are described. -/
def readGroup (bytes : ByteSeq) (expected : Nat) (F : Byte) : Nat → ReadProgress → Except DecodeError ReadProgress
  | 0, r => .ok r
  | left + 1, r =>
    if r.described < expected then
      match readPayload bytes (flagBit F (7 - left)) r with
      | .error e => .error e
      | .ok r' => readGroup bytes expected F left r'
    else .ok r

/-- The groups, while fewer bytes than expected are described. Each group describes at least one byte, so
`fuel = expected` never runs out before the loop ends. -/
def readGroups (bytes : ByteSeq) (expected : Nat) : Nat → ReadProgress → Except DecodeError ReadProgress
  | 0, r => .ok r
  | fuel + 1, r =>
    if r.described < expected then
      match bytes[r.next]? with
      | none => .error .truncated
      | some F =>
        match readGroup bytes expected F 8 { r with next := r.next + 1 } with
        | .error e => .error e
        | .ok r' => readGroups bytes expected fuel r'
    else .ok r

/-- `READ_TOKENS` (R124). -/
def readTokens (bytes : ByteSeq) (expected : BitVec 24) : Except DecodeError ReadProgress :=
  readGroups bytes expected.toNat expected.toNat ⟨[], 0, 4⟩

/-- WRITE_HEADER (R120). -/
def execWriteHeader (size : Nat) (s : State) : Res :=
  match writeHeader s.cfg.tag size with
  | .ok bs => returns (.bytes bs) s
  | .error e => returns (.err (.enc e)) s

/-- READ_HEADER (R121). -/
def execReadHeader (bytes : ByteSeq) (s : State) : Res :=
  match readHeader s.cfg.tag bytes with
  | .ok k => returns (.size k) s
  | .error e => returns (.err (.dec e)) s

/-- FLAGBYTE of 1 to 8 valid tokens (R122). -/
def execFlagByte (ts : List Token) (s : State) : Res :=
  if 1 ≤ ts.length ∧ ts.length ≤ 8 ∧ ts.all Token.valid then returns (.byte (flagByte ts)) s
  else .refused .illFormedOperand

/-- WRITE_TOKENS of valid tokens (R123). -/
def execWriteTokens (ts : List Token) (s : State) : Res :=
  if ts.all Token.valid then returns (.bytes (writeTokens ts)) s else .refused .illFormedOperand

/-- READ_TOKENS (R124). -/
def execReadTokens (bytes : ByteSeq) (expected : BitVec 24) (s : State) : Res :=
  match readTokens bytes expected with
  | .ok r => returns (.parsed r.toks r.described r.next) s
  | .error e => returns (.err (.dec e)) s

end Sys2Proof.Machine
end

