-- ==== Sys2Proof/Machine/MatchFinder.lean ====
section
/-! DEFINITION. The match finder (43_lz77_match_finder.md). -/

namespace Sys2Proof.Machine

/-- The loop of `MLEN` from length `L`, at most `fuel` more bytes (R182). -/
def mlenFrom (input : ByteSeq) (p D : Nat) : Nat → Nat → Nat
  | 0, L => L
  | fuel + 1, L => if input[p + L]? = input[p + L - D]? then mlenFrom input p D fuel (L + 1) else L

/-- `MLEN(in, p, D, maxL)`: the greatest `L ≤ maxL` with `in[p + i] = in[p + i - D]` for every `i < L` (R182). -/
def mlen (input : ByteSeq) (p D maxL : Nat) : Nat := mlenFrom input p D maxL 0

/-- The search over `count` distances from `D` upward, with the best length and distance so far; only a
strictly longer match replaces the best, so ties keep the smallest distance (R181, R187). -/
def bestFrom (input : ByteSeq) (p maxL : Nat) : Nat → Nat → Nat × Nat → Nat × Nat
  | 0, _, best => best
  | count + 1, D, best =>
    let L := mlen input p D maxL
    bestFrom input p maxL count (D + 1) (if best.1 < L then (L, D) else best)

/-- `maxL`: the cap and the remaining input (R181, R184, R185). -/
def maxLen (p n : Nat) : Nat := min maxMatch (n - p)

/-- `FIND_MATCH` with `MATCH_SEARCH = EXHAUSTIVE` (R181); `ok none` is `NoMatch`. -/
def findExhaustive (minDistance : Nat) (input : ByteSeq) (p n : Nat) : Except EncodeError (Option Token) :=
  let best := bestFrom input p (maxLen p n) (min windowSize p + 1 - minDistance) minDistance (0, 0)
  if best.1 < minMatch then .ok none
  else
    match mkMatch best.1 best.2 with
    | .ok t => .ok (some t)
    | .error e => .error e

/-- Whether a proposal meets R189: `3 ≤ L ≤ min(18, n - p)`, `1 ≤ D ≤ min(4096, p)`, and the decoder would
produce the input's bytes (R188, R182). The distance is bounded by R189's 1, not by `ENC_MIN_DIST` (R183), which is
read by the exhaustive search alone (DEDUCED from R190's relation, safe; LOG 26). -/
def soundProposal (input : ByteSeq) (p n L D : Nat) : Bool :=
  decide (minMatch ≤ L ∧ L ≤ maxLen p n ∧ minDist ≤ D ∧ D ≤ min windowSize p ∧ mlen input p D L = L)

/-- `FIND_MATCH` with `MATCH_SEARCH = ANY_SOUND` (R190): `NoMatch` or any match that meets R189. Which one is
the free value `Config.anySoundPick` (LOG 4); `ENC_MIN_DIST` does not bound it (LOG 26). -/
def findAnySound (idx : List Nat) (input : ByteSeq) (p n : Nat) : Except EncodeError (Option Token) :=
  match Config.anySoundPick idx input p with
  | none => .ok none
  | some (L, D) => if soundProposal input p n L D then .ok (some (.backref L D)) else .ok none

/-- `FIND_MATCH(in, p, n)`. With EXHAUSTIVE it does not depend on the index (R38). -/
def findMatch (cfg : Config) (idx : List Nat) (input : ByteSeq) (p n : Nat) : Except EncodeError (Option Token) :=
  match cfg.matchSearch with
  | .exhaustive => findExhaustive cfg.encMinDist input p n
  | .anySound => findAnySound idx input p n

/-- FIND_MATCH (R180, R181): `n = |in|` and `p ≤ n`. -/
def execFindMatch (input : ByteSeq) (p n : Nat) (s : State) : Res :=
  if n = input.length ∧ p ≤ n then
    match findMatch s.cfg s.idx input p n with
    | .ok none => returns .noMatch s
    | .ok (some t) => returns (.token t) s
    | .error e => returns (.err (.enc e)) s
  else .refused .illFormedOperand

end Sys2Proof.Machine
end

