-- ==== Sys2Proof/Machine/Encoder.lean ====
section
/-! DEFINITION. The parsing policy and the encoder's steps (44_lz77_encoder_parser.md). -/

namespace Sys2Proof.Machine

/-- `Literal(in[p])`; no value where `in[p]` does not exist (20_memory.md R52). -/
def literalAt (input : ByteSeq) (p : Nat) : Option Token := (input[p]?).map Token.literal

/-- `CHOOSE_GREEDY(p)` (R213). `ok none`: the literal's byte does not exist. -/
def chooseGreedy (cfg : Config) (idx : List Nat) (input : ByteSeq) (p n : Nat) : Except EncodeError (Option Token) :=
  match findMatch cfg idx input p n with
  | .error e => .error e
  | .ok none => .ok (literalAt input p)
  | .ok (some m) => .ok (some m)

/-- `CHOOSE_LAZY(p)` (R214): defer where the match at `p + 1` is strictly longer. -/
def chooseLazy (cfg : Config) (idx : List Nat) (input : ByteSeq) (p n : Nat) : Except EncodeError (Option Token) :=
  match findMatch cfg idx input p n with
  | .error e => .error e
  | .ok none => .ok (literalAt input p)
  | .ok (some m0) =>
    match findMatch cfg idx input (p + 1) n with
    | .error e => .error e
    | .ok none => .ok (some m0)
    | .ok (some m1) => if dlen m0 < dlen m1 then .ok (literalAt input p) else .ok (some m0)

/-- `CHOOSE(p)` (R212). -/
def choose (cfg : Config) (mode : Mode) (idx : List Nat) (input : ByteSeq) (p n : Nat) :
    Except EncodeError (Option Token) :=
  match mode with
  | .greedy => chooseGreedy cfg idx input p n
  | .lazy => chooseLazy cfg idx input p n

/-- Every emitted token goes through its constructor (R215, R216). -/
def construct : Token → Except EncodeError Token
  | .literal b => mkLit b
  | .backref L D => mkMatch L D

/-- A choice executed by itself: `p < n` and `n = |in|` (R212). -/
def onChoice (input : ByteSeq) (p n : Nat) (c : Except EncodeError (Option Token)) (s : State) : Res :=
  if n = input.length ∧ p < n then
    match c with
    | .error e => returns (.err (.enc e)) s
    | .ok none => .fault .inReadOutOfRange
    | .ok (some t) => returns (.token t) s
  else .refused .illFormedOperand

/-- CHOOSE_GREEDY (R213). -/
def execChooseGreedy (input : ByteSeq) (p n : Nat) (s : State) : Res :=
  onChoice input p n (chooseGreedy s.cfg s.idx input p n) s

/-- CHOOSE_LAZY (R214). -/
def execChooseLazy (input : ByteSeq) (p n : Nat) (s : State) : Res :=
  onChoice input p n (chooseLazy s.cfg s.idx input p n) s

/-- ENC_START, the start step (R211). -/
def execEncStart (s : State) : Res :=
  if s.encoderIn .start then
    match writeHeader s.cfg.tag s.n with
    | .error e => .next (raise (.enc e) s)
    | .ok h => .next { s with eout := h, eph := if s.n = 0 then .done else .parse }
  else .refused .noStepInPhase

/-- `GROUP_OUT()` (R218). -/
def groupOut (s : State) : State :=
  let written := s.emit (writeTokens s.grp)
  { written with grp := [] }

/-- A token joins the group, `p` advances by what it describes, and the positions it covers enter the index
(R215; LOG 5). -/
def pushToken (t : Token) (s : State) : State :=
  { s with grp := s.grp ++ [t], p := s.p + dlen t, idx := s.idx ++ List.range' s.p (dlen t) }

/-- A full group is written (R215, R218). -/
def groupOutIfFull (s : State) : State := if s.grp.length = 8 then groupOut s else s

/-- The end of the input (R215, R217). -/
def endOfInput (s : State) : State :=
  { s with eph := if s.p = s.n then (if 0 < s.grp.length then .flush else .done) else s.eph }

/-- ENC_PARSE, the parse step (R215). -/
def execEncParse (s : State) : Res :=
  if s.encoderIn .parse then
    match choose s.cfg s.emode s.idx s.inp s.p s.n with
    | .error e => .next (raise (.enc e) s)
    | .ok none => .fault .inReadOutOfRange
    | .ok (some c) =>
      match construct c with
      | .error e => .next (raise (.enc e) s)
      | .ok t => .next (endOfInput (groupOutIfFull (pushToken t s)))
  else .refused .noStepInPhase

/-- The last group is written: the encoder is DONE (R219). -/
def endFlush (s : State) : State := { s with eph := .done }

/-- ENC_FLUSH, the flush step (R219). -/
def execEncFlush (s : State) : Res :=
  if s.encoderIn .flush then .next (endFlush (groupOut s)) else .refused .noStepInPhase

end Sys2Proof.Machine
end

