-- ==== Sys2Proof/Machine/HostCommands.lean ====
section
/-! DEFINITION. The two host commands (45_host_interface.md). Each is issued here (R240); its steps run it
(R241, R242) and completion ends it (R243). -/

namespace Sys2Proof.Machine

/-- COMPRESS (R241). -/
def execCompress (mode : Mode) (input : ByteSeq) (s : State) : Res := issue .compress mode input s

/-- DECOMPRESS (R242): the mode is written to the descriptor and ignored. -/
def execDecompress (mode : Mode) (input : ByteSeq) (s : State) : Res := issue .decompress mode input s

end Sys2Proof.Machine
end

