-- ==== Sys2Proof/Machine/Dispatch.lean ====
section
/-! DEFINITION. The one dispatch: a meaning for each constructor of Instr. -/

namespace Sys2Proof.Machine

def exec (i : Instr) (s : State) : Host.Outcome State Fault Refusal :=
  match i with
  | .hdr size => Sys2Proof.Machine.execHdr size s
  | .flags f => Sys2Proof.Machine.execFlags f s
  | .lit b => Sys2Proof.Machine.execLit b s
  | .matchRef L D => Sys2Proof.Machine.execMatchRef L D s
  | .copy => Sys2Proof.Machine.execCopy s
  | .mkLit b => Sys2Proof.Machine.execMkLit b s
  | .mkMatch L D => Sys2Proof.Machine.execMkMatch L D s
  | .kind t => Sys2Proof.Machine.execKind t s
  | .pack t => Sys2Proof.Machine.execPack t s
  | .unpackLit b0 => Sys2Proof.Machine.execUnpackLit b0 s
  | .unpackMatch b0 b1 => Sys2Proof.Machine.execUnpackMatch b0 b1 s
  | .dlen t => Sys2Proof.Machine.execDlen t s
  | .writeHeader size => Sys2Proof.Machine.execWriteHeader size s
  | .readHeader bytes => Sys2Proof.Machine.execReadHeader bytes s
  | .flagByte ts => Sys2Proof.Machine.execFlagByte ts s
  | .writeTokens ts => Sys2Proof.Machine.execWriteTokens ts s
  | .readTokens bytes expected => Sys2Proof.Machine.execReadTokens bytes expected s
  | .findMatch input p n => Sys2Proof.Machine.execFindMatch input p n s
  | .chooseGreedy input p n => Sys2Proof.Machine.execChooseGreedy input p n s
  | .chooseLazy input p n => Sys2Proof.Machine.execChooseLazy input p n s
  | .encStart => Sys2Proof.Machine.execEncStart s
  | .encParse => Sys2Proof.Machine.execEncParse s
  | .encFlush => Sys2Proof.Machine.execEncFlush s
  | .compress mode input => Sys2Proof.Machine.execCompress mode input s
  | .decompress mode input => Sys2Proof.Machine.execDecompress mode input s

end Sys2Proof.Machine
end

