-- ==== Sys2Proof/Machine/Fetch.lean ====
section
/-! DEFINITION. What the machine does next: the element or step the running unit has reached, the errors of
a fetch, completion, and the host's actions (42_lz77_decoder.md R151; 44_lz77_encoder_parser.md R210;
45_host_interface.md R240, R243). -/

namespace Sys2Proof.Machine

/-- What a step does: run an instruction, settle in a state without one, or refuse. -/
inductive Action where
  | run (i : Instr) (s : State)
  | settle (s : State)
  | refuse (r : Refusal)
  deriving DecidableEq, Repr

/-- What the decoder reads next, in a phase that reads (R151). -/
def State.slot (s : State) : Option Slot :=
  match s.dph with
  | .expectHeader => some .header
  | .expectFlagGroup => some .flagByte
  | .inGroup => s.nextKind.map Slot.token
  | .copying => none
  | .done => none
  | .failed => none

/-- The bytes from which a slot is read: the header stands at stream offset 0 (30_encoding.md R70, R88), every
other element at `ip` (10_state.md R24). -/
def State.fetchBytes (s : State) (sl : Slot) : ByteSeq :=
  match sl with
  | .header => s.inp
  | .flagByte => s.inp.drop s.ip
  | .token _ => s.inp.drop s.ip

/-- Fetch and decode a stream element; a rejection raises its error (30_encoding.md R85; 42_lz77_decoder.md R152,
R153, R155, R156). -/
def fetchElement (sl : Slot) (s : State) : Action :=
  match decode s.cfg.tag sl (s.fetchBytes sl) with
  | .ok (i, _) => .run i s
  | .error r => .settle (raise (.dec r.toError) s)

/-- Complete a command (R243). -/
def completeAction (s : State) : Action :=
  match complete s with
  | some s' => .settle s'
  | none => .refuse .noStepInPhase

/-- The decoder's next step (R151): DONE and FAILED are terminal, COPYING reads no input, every other phase
fetches the element its slot names. -/
def decoderAction (s : State) : Action :=
  match s.slot, s.dph with
  | some sl, _ => fetchElement sl s
  | none, .copying => .run .copy s
  | none, _ => completeAction s

/-- The encoder's next step (R210). -/
def encoderAction (s : State) : Action :=
  match s.eph with
  | .start => .run .encStart s
  | .parse => .run .encParse s
  | .flush => .run .encFlush s
  | .done => completeAction s
  | .failed => completeAction s

/-- The running unit's next step. -/
def unitAction (s : State) : Action :=
  match s.op with
  | .decompress => decoderAction s
  | .compress => encoderAction s

/-- A command issued in IDLE: its codes are decoded, its buffers must not alias (10_state.md R21; R240;
60_exceptions.md R274). Where a descriptor breaks several conditions the aliasing is reported first, then an unknown
op, then an unknown mode, then the length (DESIGN CHOICE, safe; LOG 27). -/
def issueAction (c : Command) (s : State) : Action :=
  if c.aliasesOutput then .refuse .bufferAliased
  else
    match decodeCommand s.cfg c with
    | .ok i => .run i s
    | .error .unknownOp => .refuse .unknownOp
    | .error .unknownMode => .refuse .unknownMode

/-- In IDLE the core waits for a command (10_state.md R20); what the host does with its own buffers does not
concern it (R243; LOG 11, LOG 14). -/
def idleAction (s : State) : Action :=
  match s.host with
  | [] => .settle s
  | .issue c :: rest => issueAction c { s with host := rest }
  | .writeInput _ _ :: rest => .settle { s with host := rest }
  | .pass :: rest => .settle { s with host := rest }
  | .await :: rest => .settle { s with host := rest }

/-- In BUSY the running unit steps, unless the host breaks its duties (45_host_interface.md R246; R274 b, c). -/
def busyAction (s : State) : Action :=
  match s.host with
  | [] => unitAction s
  | .issue _ :: _ => .refuse .commandWhileBusy
  | .writeInput _ _ :: _ => .refuse .inputChanged
  | .pass :: rest => unitAction { s with host := rest }
  | .await :: _ => unitAction s

/-- What the machine does next. -/
def nextAction (s : State) : Action :=
  match s.blk with
  | .idle => idleAction s
  | .busy => busyAction s

/-- `s` with a running DECOMPRESS about to fetch the element a table word stands for (LOG 12, LOG 23): the
input holds the element where the fetch reads it, after a header and a flag byte where it is a payload, and
the registers the fetch reads say so. -/
def placeWord (s : State) (nbits w : Nat) : State :=
  match tableSlot nbits w with
  | .token k =>
    let f : Byte := if k then 0x80 else 0x00
    { s with
      host := [], blk := .busy, op := .decompress
      inp := headerBytes s.cfg.tag maxSize ++ [f] ++ tableBytes nbits w
      dph := .inGroup, ip := 5, dsize := BitVec.ofNat 24 maxSize, flags := f, nbit := 0 }
  | _ =>
    { s with
      host := [], blk := .busy, op := .decompress
      inp := tableBytes nbits w
      dph := .expectHeader, ip := 0 }

end Sys2Proof.Machine
end

