-- ==== Sys2Proof/Machine/Step.lean ====
section
/-! DEFINITION. One step of the machine, and the placement of a word for its next fetch. -/

namespace Sys2Proof.Machine

/-- One step: what `nextAction` says. -/
def step (s : State) : Host.Outcome State Fault Refusal :=
  match nextAction s with
  | .run i s' => exec i s'
  | .settle s' => .next s'
  | .refuse r => .refused r

/-- `s` with an instruction's word stored where the next step fetches it (LOG 12). -/
def State.withFetchWord (s : State) (nbits w : Nat) : State := placeWord s nbits w

end Sys2Proof.Machine
end

