-- ==== Sys2Proof/Machine/BigStep.lean ====
section
/-! DEFINITION. The big-step functions the spec gives beside the steps, `DECODE` (42_lz77_decoder.md R161) and
`COMPRESS` (44_lz77_encoder_parser.md R221), and well-formed token lists (30_encoding.md R91). The machine does
not run them: statements compare its steps with them. -/

namespace Sys2Proof.Machine

/-- `repeat L times: out = out ++ [out[|out| - D]]` (R161); nothing is appended where that byte does not exist. -/
def copyLoop (D : Nat) : Nat → ByteSeq → ByteSeq
  | 0, out => out
  | L + 1, out => copyLoop D L (out ++ (out[out.length - D]?).toList)

/-- The inner loop of `DECODE`: the tokens of one group, `left` of its flag bits unread; the output and the
input index. -/
def decodeGroup (input : ByteSeq) (dsize : Nat) (F : Byte) :
    Nat → ByteSeq × Nat → Except DecodeError (ByteSeq × Nat)
  | 0, st => .ok st
  | left + 1, (out, ip) =>
    if out.length < dsize then
      match flagBit F (7 - left), input[ip]?, input[ip + 1]? with
      | false, some b, _ => decodeGroup input dsize F left (out ++ [b], ip + 1)
      | true, some b0, some b1 =>
        let L := payloadLength b0
        let D := payloadDistance b0 b1
        if out.length < D then .error .badDistance
        else if dsize < out.length + L then .error .sizeMismatch
        else decodeGroup input dsize F left (copyLoop D L out, ip + 2)
      | _, _, _ => .error .truncated
    else .ok (out, ip)

/-- The outer loop of `DECODE`. Each group appends at least one byte, so `fuel = dsize` never runs out before
the loop ends. -/
def decodeGroups (input : ByteSeq) (dsize : Nat) : Nat → ByteSeq × Nat → Except DecodeError (ByteSeq × Nat)
  | 0, st => .ok st
  | fuel + 1, (out, ip) =>
    if out.length < dsize then
      match input[ip]? with
      | none => .error .truncated
      | some F =>
        match decodeGroup input dsize F 8 (out, ip + 1) with
        | .error e => .error e
        | .ok st => decodeGroups input dsize fuel st
    else .ok (out, ip)

/-- `DECODE(in)` (R161). -/
def decodeStream (tag : Byte) (input : ByteSeq) : Except DecodeError ByteSeq :=
  match readHeader tag input with
  | .error e => .error e
  | .ok dsize =>
    match decodeGroups input dsize.toNat dsize.toNat ([], 4) with
    | .error e => .error e
    | .ok (out, _) => .ok out

/-- The loop of `COMPRESS` (R221). Each token covers at least one byte, so `fuel = n` never runs out before
`p = n`; the byte at `p < n` exists, so there is always a choice. -/
def parseLoop (cfg : Config) (mode : Mode) (input : ByteSeq) :
    Nat → List Nat → Nat → List Token → Except EncodeError (List Token)
  | 0, _, _, toks => .ok toks
  | fuel + 1, idx, p, toks =>
    if p < input.length then
      match choose cfg mode idx input p input.length with
      | .error e => .error e
      | .ok none => .ok toks
      | .ok (some t) =>
        parseLoop cfg mode input fuel (idx ++ List.range' p (dlen t)) (p + dlen t) (toks ++ [t])
    else .ok toks

/-- The token list of an input (R221, R212). -/
def parseTokens (cfg : Config) (mode : Mode) (input : ByteSeq) : Except EncodeError (List Token) :=
  parseLoop cfg mode input input.length [] 0 []

/-- `assemble(n, tokens)` (30_encoding.md R91). -/
def assemble (tag : Byte) (n : Nat) (toks : List Token) : Except EncodeError ByteSeq :=
  match writeHeader tag n with
  | .error e => .error e
  | .ok h => .ok (h ++ writeTokens toks)

/-- `COMPRESS(in, mode)` (44_lz77_encoder_parser.md R221): the size is checked before any token is made. -/
def compressStream (cfg : Config) (mode : Mode) (input : ByteSeq) : Except EncodeError ByteSeq :=
  match writeHeader cfg.tag input.length with
  | .error e => .error e
  | .ok h =>
    match parseTokens cfg mode input with
    | .error e => .error e
    | .ok toks => .ok (h ++ writeTokens toks)

/-- The number of bytes a token list describes (30_encoding.md R82). -/
def described (toks : List Token) : Nat := (toks.map dlen).sum

/-- The distances of a token list stay inside the output before each match, `q` bytes being written (R91). -/
def distancesFit : Nat → List Token → Bool
  | _, [] => true
  | q, .literal _ :: ts => distancesFit (q + 1) ts
  | q, .backref L D :: ts => decide (D ≤ q) && distancesFit (q + L) ts

/-- A token list of valid tokens that is well formed for `n` (R91). -/
def streamWellFormed (n : Nat) (toks : List Token) : Bool :=
  toks.all Token.valid && decide (described toks = n) && distancesFit 0 toks

end Sys2Proof.Machine
end

