-- ==== Sys2Proof/Safety.lean ====
section
/-! DEFINITION. The invariant of the machine's states and the terms in which claims speak of runs. -/

namespace Sys2Proof.Machine

/-- The decoder's registers during a DECOMPRESS, phase by phase: `ip ≤ |in|` (10_state.md R24), `|out| ≤ dsize`
after the header (R27), `nbit < 8` and `|out| < dsize` where a token is due (42_lz77_decoder.md R154), the
ranges of the copy registers (R29) and `cdist ≤ |out|`, `crem ≥ 1` where a byte is copied (R157), `|out| = dsize`
at the end (R159). -/
def State.decoderOk (s : State) : Prop :=
  match s.dph with
  | .expectHeader => s.ip = 0 ∧ s.out = [] ∧ s.dsize = 0
  | .expectFlagGroup => 4 ≤ s.ip ∧ s.ip ≤ s.inp.length ∧ s.out.length < s.dsize.toNat
  | .inGroup => 4 ≤ s.ip ∧ s.ip ≤ s.inp.length ∧ s.out.length < s.dsize.toNat ∧ s.nbit.toNat < 8
  | .copying =>
    4 ≤ s.ip ∧ s.ip ≤ s.inp.length ∧ s.nbit.toNat ≤ 8 ∧ 1 ≤ s.crem.toNat ∧ s.crem.toNat ≤ 18 ∧
      1 ≤ s.cdist.toNat ∧ s.cdist.toNat ≤ 4096 ∧ s.cdist.toNat ≤ s.out.length ∧
      s.out.length + s.crem.toNat ≤ s.dsize.toNat
  | .done => s.ip ≤ s.inp.length ∧ s.out.length = s.dsize.toNat
  | .failed => s.ip ≤ s.inp.length ∧ s.out.length ≤ s.dsize.toNat

/-- The encoder's registers during a COMPRESS, phase by phase: `p ≤ n`, the parse ends at `p = n` (10_state.md
R32), at most 7 pending valid tokens and none at the end (R34; 44_lz77_encoder_parser.md R215, R219), the header
first in the output (R211), the index holding the positions covered (LOG 5), and `SizeTooLarge` the only
error (60_exceptions.md R262). -/
def State.encoderOk (s : State) : Prop :=
  s.emode = s.mode ∧
  match s.eph with
  | .start => s.p = 0 ∧ s.grp = [] ∧ s.eout = [] ∧ s.idx = []
  | .parse =>
    s.p < s.n ∧ s.n ≤ maxSize ∧ s.grp.length ≤ 7 ∧ s.grp.all Token.valid = true ∧
      headerBytes s.cfg.tag s.n <+: s.eout ∧ s.idx = List.range s.p
  | .flush =>
    s.p = s.n ∧ s.n ≤ maxSize ∧ 1 ≤ s.grp.length ∧ s.grp.length ≤ 7 ∧ s.grp.all Token.valid = true ∧
      headerBytes s.cfg.tag s.n <+: s.eout
  | .done => s.p = s.n ∧ s.n ≤ maxSize ∧ s.grp = [] ∧ headerBytes s.cfg.tag s.n <+: s.eout
  | .failed => s.eerr = .sizeTooLarge ∧ maxSize < s.n ∧ s.eout = []

/-- The invariant: the configuration is legal (LOG 6), the running unit's registers are in range, and a result
other than OK holds no output (10_state.md R22, 60_exceptions.md R266; LOG 21). -/
structure Inv (s : State) : Prop where
  cfg : s.cfg.wf
  decoder : s.blk = .busy → s.op = .decompress → s.decoderOk
  encoder : s.blk = .busy → s.op = .compress → s.encoderOk
  result : s.status ≠ .ok → s.output = []

/-- The status and output a command ends with; no output after an error (LOG 21). -/
def outcome {ε : Type} (wrap : ε → ErrorKind) : Except ε ByteSeq → Status × ByteSeq
  | .ok bs => (.ok, bs)
  | .error e => (.error (wrap e), [])

/-- The running command ends within `bound` steps, in IDLE with a valid result (LOG 9), `r` its status and
output. The completion step counts (LOG 13). -/
def endsWith (bound : Nat) (r : Status × ByteSeq) (s : State) : Prop :=
  ∃ k t, k ≤ bound ∧ Sys2Proof.core.run k s = .next t ∧
    t.blk = .idle ∧ t.resultValid = true ∧ (t.status, t.output) = r

end Sys2Proof.Machine
end

