-- ==== Sys2Proof/Certificates/Slice0/Obligations.lean ====
section
/-! DEFINITION. The statements for the provers. Each docstring names the rule of spec/ it formalises. -/

open Sys2Proof Sys2Proof.Machine

/-! ### Encoding -/

/-- 95_test_vectors.md S4, S5, section 2.1: words written out from the encodings of 30_encoding.md R71, R75, R77,
R78 decode to the elements they stand for. -/
def Obligations.WrittenOutWordsDecode : Prop :=
  decode 0x10 .header [0x10, 0x0B, 0x00, 0x00, 0x40] = .ok (.hdr 11, [0x40]) ∧
  decode 0x10 .header [0x10, 0x12, 0x10, 0x00] = .ok (.hdr 4114, []) ∧
  decode 0x10 .flagByte [0x40, 0xAB] = .ok (.flags 0x40, [0xAB]) ∧
  decode 0x10 (.token false) [0xAB, 0x70] = .ok (.lit 0xAB, [0x70]) ∧
  decode 0x10 (.token true) [0x70, 0x00] = .ok (.matchRef 10 1, []) ∧
  decode 0x10 (.token true) [0x0F, 0xFF] = .ok (.matchRef 3 4096, []) ∧
  decode 0x10 (.token true) [0xF0, 0x00] = .ok (.matchRef 18 1, []) ∧
  decode 0x10 (.token true) [0xFF, 0xFF] = .ok (.matchRef 18 4096, [])

/-- 30_encoding.md R73: the header's size field, little-endian, every 24-bit value legal. -/
def Obligations.HeaderSizeFieldIsLittleEndian : Prop :=
  (∀ (tag b1 b2 b3 : Byte) (rest : ByteSeq), ∃ size : BitVec 24,
    decode tag .header (tag :: b1 :: b2 :: b3 :: rest) = .ok (.hdr size, rest) ∧
      size.toNat = b1.toNat + 256 * b2.toNat + 65536 * b3.toNat) ∧
  ∀ (tag : Byte) (size : BitVec 24), ∃ b1 b2 b3 : Byte,
    decode tag .header [tag, b1, b2, b3] = .ok (.hdr size, [])

/-- 30_encoding.md R79, R80: the fields of a match payload, and every payload legal. -/
def Obligations.MatchPayloadFieldsAreBiasedAndLegal : Prop :=
  ∀ (tag b0 b1 : Byte) (rest : ByteSeq), ∃ L D : Nat,
    decode tag (.token true) (b0 :: b1 :: rest) = .ok (.matchRef L D, rest) ∧
      L = b0.toNat / 16 + 3 ∧ D = (b0.toNat % 16) * 256 + b1.toNat + 1 ∧
      3 ≤ L ∧ L ≤ 18 ∧ 1 ≤ D ∧ D ≤ 4096

/-- 30_encoding.md R85, 41_stream_framer.md R121: a decode rejects exactly a wrong tag, and a missing byte, the
tag being looked at first. -/
def Obligations.DecodeRejectsExactlyWrongTagAndMissingBytes : Prop :=
  ∀ (tag : Byte) (sl : Slot) (bytes : ByteSeq),
    (decode tag sl bytes = .error .badMagic ↔ sl = .header ∧ ∃ b rest, bytes = b :: rest ∧ b ≠ tag) ∧
    (decode tag sl bytes = .error .truncated ↔
      bytes.length < sl.size ∧ ¬ (sl = .header ∧ ∃ b rest, bytes = b :: rest ∧ b ≠ tag))

/-- For every well-formed stream element, decoding its encoding gives it back and leaves what follows. -/
def Obligations.DecodeOfEncodeIsTheInstruction : Prop :=
  ∀ (tag : Byte) (i : Instr) (sl : Slot) (bs rest : ByteSeq),
    i.wf = true → encode tag i = some (sl, bs) → decode tag sl (bs ++ rest) = .ok (i, rest)

/-- Every decoded element is a well-formed instruction, and its encoding is the bytes decoded: no bit of a
stream element is ignored. -/
def Obligations.EncodeOfDecodeIsTheBytes : Prop :=
  ∀ (tag : Byte) (sl : Slot) (bytes rest : ByteSeq) (i : Instr),
    decode tag sl bytes = .ok (i, rest) →
      i.wf = true ∧ ∃ bs, encode tag i = some (sl, bs) ∧ bytes = bs ++ rest

/-- 10_state.md R21, 60_exceptions.md R274 (a): the descriptor codes of the host commands; every other code is
refused, and a mode that is not set is `PARSE_MODE`. That an illegal mode code is refused for DECOMPRESS too is
LOG 18. -/
def Obligations.DescriptorCodesNameTheCommands : Prop :=
  ∀ (cfg : Config) (input : ByteSeq) (a : Bool),
    (∀ i c, encodeCommand i = some c → decodeCommand cfg c = .ok i) ∧
    decodeCommand cfg ⟨0, none, input, a⟩ = .ok (.compress cfg.parseMode input) ∧
    decodeCommand cfg ⟨1, none, input, a⟩ = .ok (.decompress cfg.parseMode input) ∧
    (∀ op mode i, decodeCommand cfg ⟨op, mode, input, a⟩ = .ok i →
      (op = 0 ∨ op = 1) ∧ (mode = none ∨ mode = some 0 ∨ mode = some 1))

/-! ### Unit operations -/

/-- 40_token_codec.md R102, R103: the constructors answer the token, or `OutOfRange` exactly where a bound fails. -/
def Obligations.TokenConstructorsAnswerOrOutOfRange : Prop :=
  ∀ (s : State) (b : Byte) (L D : Nat),
    exec (.mkLit b) s = .next { s with ures := .token (.literal b) } ∧
    (3 ≤ L ∧ L ≤ 18 ∧ 1 ≤ D ∧ D ≤ 4096 → exec (.mkMatch L D) s = .next { s with ures := .token (.backref L D) }) ∧
    (¬ (3 ≤ L ∧ L ≤ 18 ∧ 1 ≤ D ∧ D ≤ 4096) →
      exec (.mkMatch L D) s = .next { s with ures := .err (.enc .outOfRange) })

/-- 40_token_codec.md R104, R108: the flag bit and the described length of each kind of token. -/
def Obligations.KindAndDescribedLength : Prop :=
  ∀ (s : State) (b : Byte) (L D : Nat), 3 ≤ L → L ≤ 18 → 1 ≤ D → D ≤ 4096 →
    exec (.kind (.literal b)) s = .next { s with ures := .flagBit false } ∧
    exec (.kind (.backref L D)) s = .next { s with ures := .flagBit true } ∧
    exec (.dlen (.literal b)) s = .next { s with ures := .length 1 } ∧
    exec (.dlen (.backref L D)) s = .next { s with ures := .length L }

/-- 40_token_codec.md R105, R106, R107, R109: packing then unpacking gives the token back, the payload's bytes
being the numbers 30_encoding.md R78 names. -/
def Obligations.UnpackOfPackIsTheToken : Prop :=
  (∀ (s : State) (b : Byte),
    exec (.pack (.literal b)) s = .next { s with ures := .bytes [b] } ∧
    exec (.unpackLit b) s = .next { s with ures := .token (.literal b) }) ∧
  ∀ (s : State) (L D : Nat), 3 ≤ L → L ≤ 18 → 1 ≤ D → D ≤ 4096 →
    ∃ b0 b1 : Byte,
      b0.toNat = 16 * (L - 3) + (D - 1) / 256 ∧ b1.toNat = (D - 1) % 256 ∧
      exec (.pack (.backref L D)) s = .next { s with ures := .bytes [b0, b1] } ∧
      exec (.unpackMatch b0 b1) s = .next { s with ures := .token (.backref L D) }

/-- 40_token_codec.md R107, R109: unpacking any two bytes gives the valid match of the fields' numbers (never an
error), and packing it gives the bytes back. -/
def Obligations.PackOfUnpackIsThePayload : Prop :=
  ∀ (s : State) (b0 b1 : Byte), ∃ L D : Nat,
    L = b0.toNat / 16 + 3 ∧ D = (b0.toNat % 16) * 256 + b1.toNat + 1 ∧ 3 ≤ L ∧ L ≤ 18 ∧ 1 ≤ D ∧ D ≤ 4096 ∧
      exec (.unpackMatch b0 b1) s = .next { s with ures := .token (.backref L D) } ∧
      exec (.pack (.backref L D)) s = .next { s with ures := .bytes [b0, b1] }

/-- 41_stream_framer.md R120, 30_encoding.md R74. -/
def Obligations.WriteHeaderAnswersFourBytesOrSizeTooLarge : Prop :=
  ∀ (s : State) (size : Nat),
    (size ≤ 2 ^ 24 - 1 → ∃ b1 b2 b3 : Byte,
      b1.toNat = size % 256 ∧ b2.toNat = size / 256 % 256 ∧ b3.toNat = size / 65536 % 256 ∧
      exec (.writeHeader size) s = .next { s with ures := .bytes [s.cfg.tag, b1, b2, b3] }) ∧
    (2 ^ 24 - 1 < size → exec (.writeHeader size) s = .next { s with ures := .err (.enc .sizeTooLarge) })

/-- 41_stream_framer.md R121: the tag is checked before the length. -/
def Obligations.ReadHeaderChecksTagThenLength : Prop :=
  ∀ (s : State) (bytes : ByteSeq),
    (∀ b rest, bytes = b :: rest → b ≠ s.cfg.tag →
      exec (.readHeader bytes) s = .next { s with ures := .err (.dec .badMagic) }) ∧
    ((∀ b rest, bytes = b :: rest → b = s.cfg.tag) → bytes.length < 4 →
      exec (.readHeader bytes) s = .next { s with ures := .err (.dec .truncated) }) ∧
    (∀ b1 b2 b3 rest, bytes = s.cfg.tag :: b1 :: b2 :: b3 :: rest → ∃ size : BitVec 24,
      size.toNat = b1.toNat + 256 * b2.toNat + 65536 * b3.toNat ∧
      exec (.readHeader bytes) s = .next { s with ures := .size size })

/-- 41_stream_framer.md R122: bit `7 - k` is the kind of token `k`; bits of tokens not present are 0. -/
def Obligations.FlagByteClassifiesMostSignificantFirst : Prop :=
  ∀ (s : State) (ts : List Token), 1 ≤ ts.length → ts.length ≤ 8 → ts.all Token.valid = true →
    ∃ F : Byte, exec (.flagByte ts) s = .next { s with ures := .byte F } ∧
      ∀ k, k < 8 → F.getLsbD (7 - k) = (match ts[k]? with | some t => kindBit t | none => false)

/-- 41_stream_framer.md R123, R127: no tokens give no bytes; otherwise the first group (up to 8 tokens: the flag
byte, then the payloads) and the groups of the rest. -/
def Obligations.WriteTokensWritesGroupsOfEight : Prop :=
  ∀ (s : State) (ts : List Token), ts.all Token.valid = true →
    exec (.writeTokens ts) s = .next { s with ures := .bytes (writeTokens ts) } ∧
    (ts = [] → writeTokens ts = []) ∧
    (ts ≠ [] → writeTokens ts =
      flagByte (ts.take 8) :: (ts.take 8).flatMap packToken ++ writeTokens (ts.drop 8))

/-- 41_stream_framer.md R123, 30_encoding.md R81, R87: `T` tokens of which `c` are matches take
`ceil(T / 8) + (T - c) + 2c` bytes. -/
def Obligations.WrittenTokensLength : Prop :=
  ∀ ts : List Token,
    (writeTokens ts).length = (ts.length + 7) / 8 + (ts.length - ts.countP kindBit) + 2 * ts.countP kindBit

/-- 41_stream_framer.md R124, R125: READ_TOKENS answers, and its only error is `Truncated`; an answer describes
at least the expected bytes, overruns by less than one match, and reads only bytes that exist. -/
def Obligations.ReadTokensAnswersOrTruncated : Prop :=
  ∀ (s : State) (bytes : ByteSeq) (expected : BitVec 24),
    exec (.readTokens bytes expected) s = .next { s with ures := .err (.dec .truncated) } ∨
    ∃ ts d i, exec (.readTokens bytes expected) s = .next { s with ures := .parsed ts d i } ∧
      ts.all Token.valid = true ∧ described ts = d ∧ expected.toNat ≤ d ∧ d < expected.toNat + 18 ∧
      4 ≤ i ∧ (expected ≠ 0 → i ≤ bytes.length)

/-- 41_stream_framer.md R126 (with any trailing bytes, 30_encoding.md R83): reading an assembled stream gives its
tokens. -/
def Obligations.ReadTokensOfAssembledStream : Prop :=
  ∀ (s : State) (toks : List Token) (trail : ByteSeq) (n : BitVec 24),
    toks.all Token.valid = true → described toks = n.toNat →
    ∃ bs, assemble s.cfg.tag n.toNat toks = .ok bs ∧
      exec (.readTokens (bs ++ trail) n) s =
        .next { s with ures := .parsed toks n.toNat (4 + (writeTokens toks).length) }

/-! ### The match finder -/

/-- `L` is the greatest length up to `maxL` at which the input at `p` equals itself `D` bytes before
(43_lz77_match_finder.md R182). -/
def isMatchLength (input : ByteSeq) (p D maxL L : Nat) : Prop :=
  L ≤ maxL ∧ (∀ i, i < L → input[p + i]? = input[p + i - D]?) ∧
    (L < maxL → input[p + L]? ≠ input[p + L - D]?)

/-- 43_lz77_match_finder.md R182. -/
def Obligations.MatchLengthIsGreatest : Prop :=
  ∀ (input : ByteSeq) (p D maxL L : Nat), mlen input p D maxL = L ↔ isMatchLength input p D maxL L

/-- 43_lz77_match_finder.md R181, R183 to R187: with EXHAUSTIVE the finder answers the longest match over the
eligible distances, ties to the smallest distance, and `NoMatch` exactly where none reaches 3. -/
def Obligations.ExhaustiveSearchFindsLongestThenNearest : Prop :=
  ∀ (s : State) (input : ByteSeq) (p : Nat), s.cfg.matchSearch = .exhaustive → s.cfg.wf → p ≤ input.length →
    (exec (.findMatch input p input.length) s = .next { s with ures := .noMatch } ∧
      ∀ D L, s.cfg.encMinDist ≤ D → D ≤ min 4096 p →
        isMatchLength input p D (min 18 (input.length - p)) L → L < 3) ∨
    ∃ L D, exec (.findMatch input p input.length) s = .next { s with ures := .token (.backref L D) } ∧
      3 ≤ L ∧ s.cfg.encMinDist ≤ D ∧ D ≤ min 4096 p ∧
      isMatchLength input p D (min 18 (input.length - p)) L ∧
      ∀ D' L', s.cfg.encMinDist ≤ D' → D' ≤ min 4096 p →
        isMatchLength input p D' (min 18 (input.length - p)) L' → L' ≤ L ∧ (L' = L → D ≤ D')

/-- 43_lz77_match_finder.md R189, R190: with either search the finder answers `NoMatch` or a sound match, and a
decoder whose output is `in[0..p)` then produces `in[0..p+L)`. It holds for every value of the free proposal. -/
def Obligations.EverySearchIsSound : Prop :=
  ∀ (s : State) (input : ByteSeq) (p : Nat), s.cfg.wf → p ≤ input.length →
    exec (.findMatch input p input.length) s = .next { s with ures := .noMatch } ∨
    ∃ L D, exec (.findMatch input p input.length) s = .next { s with ures := .token (.backref L D) } ∧
      3 ≤ L ∧ L ≤ min 18 (input.length - p) ∧ 1 ≤ D ∧ D ≤ min 4096 p ∧
      copyLoop D L (input.take p) = input.take (p + L)

/-! ### The parsing policy -/

/-- 44_lz77_encoder_parser.md R213. -/
def Obligations.GreedyTakesTheMatchOrALiteral : Prop :=
  ∀ (s : State) (input : ByteSeq) (p : Nat) (b : Byte), s.cfg.wf → input[p]? = some b →
    ∃ m, findMatch s.cfg s.idx input p input.length = .ok m ∧
      exec (.chooseGreedy input p input.length) s =
        .next { s with ures := .token (match m with | none => .literal b | some t => t) }

/-- 44_lz77_encoder_parser.md R214: defer exactly where the match at `p + 1` is strictly longer. -/
def Obligations.LazyDefersOnlyToALongerMatch : Prop :=
  ∀ (s : State) (input : ByteSeq) (p : Nat) (b : Byte), s.cfg.wf → input[p]? = some b →
    ∃ m0 m1, findMatch s.cfg s.idx input p input.length = .ok m0 ∧
      findMatch s.cfg s.idx input (p + 1) input.length = .ok m1 ∧
      exec (.chooseLazy input p input.length) s =
        .next { s with ures := .token (match m0, m1 with
          | none, _ => .literal b
          | some t0, none => t0
          | some t0, some t1 => if dlen t0 < dlen t1 then .literal b else t0) }

/-! ### Frames of the unit operations -/

/-- The unit operations executed by themselves. -/
def isUnitOperation : Instr → Bool
  | .mkLit _ | .mkMatch _ _ | .kind _ | .pack _ | .unpackLit _ | .unpackMatch _ _ | .dlen _ => true
  | .writeHeader _ | .readHeader _ | .flagByte _ | .writeTokens _ | .readTokens _ _ => true
  | .findMatch _ _ _ | .chooseGreedy _ _ _ | .chooseLazy _ _ _ => true
  | _ => false

/-- 10_state.md R37, R39; 40_token_codec.md: a unit operation writes its result (the model's own port, LOG 10)
and nothing else, and it completes for every well-formed operand where the configuration is legal. -/
def Obligations.UnitOperationsWriteOnlyTheirResult : Prop :=
  ∀ (i : Instr) (s : State), isUnitOperation i = true →
    (∀ t, exec i s = .next t → t = { s with ures := t.ures }) ∧
    (i.wf = true → s.cfg.wf → ∃ r, exec i s = .next { s with ures := r })

/-! ### Decoder steps -/

/-- 42_lz77_decoder.md R152: the header step, with `READ_HEADER(in)` of 41_stream_framer.md R121. -/
def Obligations.HeaderStep : Prop :=
  ∀ s : State, s.blk = .busy → s.op = .decompress → s.dph = .expectHeader →
    (∀ size : BitVec 24, exec (.hdr size) s =
      .next { s with dsize := size, ip := 4, dph := if size = 0 then .done else .expectFlagGroup }) ∧
    (s.host = [] →
      (∀ size, readHeader s.cfg.tag s.inp = .ok size → step s =
        .next { s with dsize := size, ip := 4, dph := if size = 0 then .done else .expectFlagGroup }) ∧
      (∀ e, readHeader s.cfg.tag s.inp = .error e → step s = .next { s with derr := e, dph := .failed }))

/-- 42_lz77_decoder.md R153: the flag-byte step. -/
def Obligations.FlagByteStep : Prop :=
  ∀ s : State, s.blk = .busy → s.op = .decompress → s.dph = .expectFlagGroup →
    (∀ f : Byte, exec (.flags f) s =
      .next { s with flags := f, ip := s.ip + 1, nbit := 0, dph := .inGroup }) ∧
    (s.host = [] →
      (∀ f, s.inp[s.ip]? = some f → step s =
        .next { s with flags := f, ip := s.ip + 1, nbit := 0, dph := .inGroup }) ∧
      (s.inp.length ≤ s.ip → step s = .next { s with derr := .truncated, dph := .failed }))

/-- 42_lz77_decoder.md R154, R155, R158: the literal step and its boundary. -/
def Obligations.LiteralStep : Prop :=
  ∀ s : State, s.blk = .busy → s.op = .decompress → s.dph = .inGroup →
    s.nbit.toNat < 8 → s.flags.getLsbD (7 - s.nbit.toNat) = false →
    (∀ b : Byte, exec (.lit b) s = .next
      { s with
        ip := s.ip + 1, out := s.out ++ [b], nbit := s.nbit + 1
        dph :=
          if s.out.length + 1 = s.dsize.toNat then .done
          else if s.nbit.toNat + 1 = 8 then .expectFlagGroup else .inGroup }) ∧
    (s.nbit + 1).toNat = s.nbit.toNat + 1 ∧
    (s.host = [] →
      (∀ b, s.inp[s.ip]? = some b → step s = exec (.lit b) s) ∧
      (s.inp.length ≤ s.ip → step s = .next { s with derr := .truncated, dph := .failed }))

/-- 42_lz77_decoder.md R156, R162, R163: the match step. Its checks come in order, `BadDistance` then
`SizeMismatch`, the payload consumed and no byte copied; a match in range starts its copy; a missing payload byte
is `Truncated`. -/
def Obligations.MatchStep : Prop :=
  ∀ s : State, s.blk = .busy → s.op = .decompress → s.dph = .inGroup →
    s.nbit.toNat < 8 → s.flags.getLsbD (7 - s.nbit.toNat) = true →
    (∀ L D, 3 ≤ L → L ≤ 18 → 1 ≤ D → D ≤ 4096 →
      (s.out.length < D → exec (.matchRef L D) s =
        .next { s with ip := s.ip + 2, derr := .badDistance, dph := .failed }) ∧
      (D ≤ s.out.length → s.dsize.toNat < s.out.length + L → exec (.matchRef L D) s =
        .next { s with ip := s.ip + 2, derr := .sizeMismatch, dph := .failed }) ∧
      (D ≤ s.out.length → s.out.length + L ≤ s.dsize.toNat →
        ∃ t, exec (.matchRef L D) s = .next t ∧
          t = { s with ip := s.ip + 2, crem := t.crem, cdist := t.cdist, nbit := t.nbit, dph := .copying } ∧
          t.crem.toNat = L ∧ t.cdist.toNat = D ∧ t.nbit.toNat = s.nbit.toNat + 1)) ∧
    (s.host = [] →
      (s.inp.length ≤ s.ip + 1 → step s = .next { s with derr := .truncated, dph := .failed }) ∧
      (∀ b0 b1, s.inp[s.ip]? = some b0 → s.inp[s.ip + 1]? = some b1 → step s =
        exec (.matchRef (b0.toNat / 16 + 3) ((b0.toNat % 16) * 256 + b1.toNat + 1)) s))

/-- 42_lz77_decoder.md R157, R158: the copy step reads the byte `cdist` behind the cursor and appends it. -/
def Obligations.CopyStep : Prop :=
  ∀ s : State, s.blk = .busy → s.op = .decompress → s.dph = .copying →
    1 ≤ s.crem.toNat → 1 ≤ s.cdist.toNat → s.cdist.toNat ≤ s.out.length →
    ∃ b, s.out[s.out.length - s.cdist.toNat]? = some b ∧
      exec .copy s = .next
        { s with
          out := s.out ++ [b], crem := s.crem - 1
          dph :=
            if s.crem.toNat = 1 then
              if s.out.length + 1 = s.dsize.toNat then .done
              else if s.nbit.toNat = 8 then .expectFlagGroup else .inGroup
            else .copying } ∧
      (s.crem - 1).toNat = s.crem.toNat - 1

/-- 20_memory.md R53: a copy whose source does not exist is a fault of the model, never a value. -/
def Obligations.CopyFromNowhereFaults : Prop :=
  ∀ s : State, s.blk = .busy → s.op = .decompress → s.dph = .copying → s.crem ≠ 0 →
    (s.cdist = 0 ∨ s.out.length < s.cdist.toNat) → exec .copy s = .fault .outReadOutOfRange

/-- 42_lz77_decoder.md R167: a whole match appends the `D`-periodic continuation of the last `D` bytes, and if the
output was the start of an input that repeats itself at distance `D`, it still is. -/
def Obligations.WholeCopyIsThePeriodicContinuation : Prop :=
  ∀ (s : State) (L D : Nat), s.blk = .busy → s.op = .decompress → s.dph = .copying → s.host = [] →
    s.crem.toNat = L → s.cdist.toNat = D → 1 ≤ L → 1 ≤ D → D ≤ s.out.length →
    ∃ t, Sys2Proof.core.run L s = .next t ∧ t.out.length = s.out.length + L ∧
      (∀ a, a < s.out.length → t.out[a]? = s.out[a]?) ∧
      (∀ j, j < L → t.out[s.out.length + j]? = s.out[s.out.length - D + j % D]?) ∧
      ∀ input : ByteSeq, s.out = input.take s.out.length → s.out.length + L ≤ input.length →
        (∀ j, j < L → input[s.out.length + j]? = input[s.out.length + j - D]?) →
        t.out = input.take (s.out.length + L)

/-- 42_lz77_decoder.md R151, 30_encoding.md R85: where the decoder reads, a step executes the element decoded
from the bytes at the stream's start (header) or at `ip`, and a rejection raises its error. -/
def Obligations.StepRunsTheDecodedElement : Prop :=
  ∀ (s : State) (sl : Slot) (bytes : ByteSeq), s.blk = .busy → s.op = .decompress → s.host = [] →
    ((s.dph = .expectHeader ∧ sl = .header ∧ bytes = s.inp) ∨
      (s.dph = .expectFlagGroup ∧ sl = .flagByte ∧ bytes = s.inp.drop s.ip) ∨
      (s.dph = .inGroup ∧ s.nbit.toNat < 8 ∧ sl = .token (s.flags.getLsbD (7 - s.nbit.toNat)) ∧
        bytes = s.inp.drop s.ip)) →
    (∀ i rest, decode s.cfg.tag sl bytes = .ok (i, rest) → i.wf = true ∧ step s = exec i s) ∧
    (∀ r, decode s.cfg.tag sl bytes = .error r → step s = .next { s with derr := r.toError, dph := .failed })

/-- 42_lz77_decoder.md R151, 44_lz77_encoder_parser.md R210: in the phases that read no element, a step executes
the step the phase selects. -/
def Obligations.StepRunsThePhaseSelectedStep : Prop :=
  ∀ s : State, s.blk = .busy → s.host = [] →
    (s.op = .decompress → s.dph = .copying → step s = exec .copy s) ∧
    (s.op = .compress → s.eph = .start → step s = exec .encStart s) ∧
    (s.op = .compress → s.eph = .parse → step s = exec .encParse s) ∧
    (s.op = .compress → s.eph = .flush → step s = exec .encFlush s)

/-- The address in the output space a decoder instruction stores to (20_memory.md R54). -/
def storedAt (s : State) : Instr → Option Nat
  | .lit _ => some s.out.length
  | .copy => some s.out.length
  | _ => none

/-- The decoder's instructions: outside the destination registers each rule names, and the one byte appended,
nothing changes; the input, the result, the encoder's registers and the index are left alone. -/
def Obligations.DecoderStepsFrame : Prop :=
  ∀ (s t : State) (size : BitVec 24) (f b : Byte) (L D : Nat) (i : Instr),
    (i = .hdr size ∨ i = .flags f ∨ i = .lit b ∨ i = .matchRef L D ∨ i = .copy) → exec i s = .next t →
    t = { s with
          dph := t.dph, ip := t.ip, dsize := t.dsize, out := t.out, flags := t.flags, nbit := t.nbit
          crem := t.crem, cdist := t.cdist, derr := t.derr } ∧
    (∀ a, storedAt s i ≠ some a → t.outRead a = s.outRead a) ∧
    (∀ a, t.inRead a = s.inRead a) ∧
    (i ≠ .hdr size → t.dsize = s.dsize) ∧
    (i ≠ .flags f → t.flags = s.flags) ∧
    (i ≠ .matchRef L D → t.cdist = s.cdist ∧ t.derr = s.derr) ∧
    (i = .hdr size ∨ i = .copy → t.nbit = s.nbit) ∧
    (i = .hdr size ∨ i = .flags f ∨ i = .lit b → t.crem = s.crem) ∧
    (i = .copy → t.ip = s.ip)

/-- 60_exceptions.md R266, R272: a step that fails a DECOMPRESS records the kind and moves to FAILED; no byte is
appended and nothing else is written but the payload's consumption (42_lz77_decoder.md R156). The next step
completes the command with that status and no output. (The model's choices: that completion is a step of its own is
LOG 13, that the field `output` is then empty is LOG 21.) -/
def Obligations.FailingStepRecordsOnlyTheError : Prop :=
  ∀ s t : State, s.blk = .busy → s.op = .decompress → s.host = [] → s.dph ≠ .failed →
    step s = .next t → t.dph = .failed →
    t = { s with derr := t.derr, dph := .failed, ip := t.ip } ∧ (t.ip = s.ip ∨ t.ip = s.ip + 2) ∧
    step t = .next { t with blk := .idle, resultValid := true, status := .error (.dec t.derr), output := [] }

/-! ### Encoder steps -/

/-- 44_lz77_encoder_parser.md R211: the start step. -/
def Obligations.EncoderStartStep : Prop :=
  ∀ s : State, s.blk = .busy → s.op = .compress → s.eph = .start →
    (s.n ≤ 2 ^ 24 - 1 → exec .encStart s =
      .next { s with eout := headerBytes s.cfg.tag s.n, eph := if s.n = 0 then .done else .parse }) ∧
    (2 ^ 24 - 1 < s.n → exec .encStart s = .next { s with eerr := .sizeTooLarge, eph := .failed })

/-- 44_lz77_encoder_parser.md R212, R215, R216, R218: the parse step takes the policy's token, which is valid and
fits; a full group is written at once; the parse ends at `p = n`. A choice that fails (no legal configuration
makes one, R216) fails the command. (The content of the index `idx` is the model's choice, LOG 5.) -/
def Obligations.EncoderParseStep : Prop :=
  ∀ s : State, s.blk = .busy → s.op = .compress → s.eph = .parse →
    (∀ e, (match s.emode with
        | .greedy => chooseGreedy s.cfg s.idx s.inp s.p s.n
        | .lazy => chooseLazy s.cfg s.idx s.inp s.p s.n) = .error e →
      e = .outOfRange ∧ exec .encParse s = .next { s with eerr := .outOfRange, eph := .failed }) ∧
    (s.cfg.wf → s.p < s.n → s.grp.length ≤ 7 →
      ∃ c, (match s.emode with
          | .greedy => chooseGreedy s.cfg s.idx s.inp s.p s.n
          | .lazy => chooseLazy s.cfg s.idx s.inp s.p s.n) = .ok (some c) ∧
        c.valid = true ∧ s.p + dlen c ≤ s.n ∧
        exec .encParse s = .next
          { s with
            p := s.p + dlen c
            grp := if s.grp.length + 1 = 8 then [] else s.grp ++ [c]
            eout := if s.grp.length + 1 = 8 then s.eout ++ writeTokens (s.grp ++ [c]) else s.eout
            idx := s.idx ++ List.range' s.p (dlen c)
            eph :=
              if s.p + dlen c = s.n then (if s.grp.length + 1 = 8 then .done else .flush) else .parse })

/-- 44_lz77_encoder_parser.md R219: the flush step writes the last partial group, one flag byte with 0 in its
unused bits and the payloads. -/
def Obligations.EncoderFlushStep : Prop :=
  ∀ s : State, s.blk = .busy → s.op = .compress → s.eph = .flush →
    exec .encFlush s = .next { s with eout := s.eout ++ writeTokens s.grp, grp := [], eph := .done } ∧
    (1 ≤ s.grp.length → s.grp.length ≤ 7 → ∃ F : Byte,
      writeTokens s.grp = F :: s.grp.flatMap packToken ∧
        ∀ k, s.grp.length ≤ k → k < 8 → F.getLsbD (7 - k) = false)

/-- The encoder's instructions: only the encoder's registers and the index change, the output only grows at its
end after the header, and a failing step records its error alone (60_exceptions.md R266). -/
def Obligations.EncoderStepsFrame : Prop :=
  ∀ (s t : State) (i : Instr), (i = .encStart ∨ i = .encParse ∨ i = .encFlush) → exec i s = .next t →
    t = { s with eph := t.eph, p := t.p, grp := t.grp, eout := t.eout, eerr := t.eerr, idx := t.idx } ∧
    (i = .encStart → t.p = s.p ∧ t.grp = s.grp ∧ t.idx = s.idx) ∧
    (i = .encParse → s.eout <+: t.eout) ∧
    (i = .encFlush → s.eout <+: t.eout ∧ t.p = s.p ∧ t.idx = s.idx) ∧
    (t.eph = .failed → t = { s with eerr := t.eerr, eph := .failed }) ∧
    (t.eph ≠ .failed → t.eerr = s.eerr)

/-- 10_state.md R38, 70_reset_and_hazards.md R295: with EXHAUSTIVE, no content of the match index reaches a parse
step's tokens, output or phase. -/
def Obligations.IndexContentReachesNoOutput : Prop :=
  ∀ (s t : State) (other : List Nat), s.cfg.matchSearch = .exhaustive → exec .encParse s = .next t →
    ∃ left, exec .encParse { s with idx := other } = .next { t with idx := left }

/-! ### Host commands -/

/-- 45_host_interface.md R240, 10_state.md R40, R41: a command issued in IDLE writes the descriptor, sets BUSY and
gives the units their initial values; the result descriptor is unchanged. (The registers R41 leaves unspecified
are not stated here.) -/
def Obligations.IssuedCommandInitialisesTheUnits : Prop :=
  ∀ (s : State) (m : Mode) (input : ByteSeq), s.blk = .idle → lengthLegal s.cfg input.length = true →
    ∃ c d, exec (.compress m input) s = .next c ∧ exec (.decompress m input) s = .next d ∧
      c.op = .compress ∧ d.op = .decompress ∧
      ∀ t, (t = c ∨ t = d) →
        t.blk = .busy ∧ t.mode = m ∧ t.inp = input ∧
        t.dph = .expectHeader ∧ t.ip = 0 ∧ t.out = [] ∧
        t.eph = .start ∧ t.p = 0 ∧ t.grp = [] ∧ t.eout = [] ∧ t.emode = m ∧ t.idx = [] ∧
        t.resultValid = s.resultValid ∧ t.status = s.status ∧ t.output = s.output ∧
        t.cfg = s.cfg ∧ t.ures = s.ures ∧ t.host = s.host

/-- 10_state.md R20, 45_host_interface.md R240, 60_exceptions.md R274 (a), (b), (c): the host port. A legal
descriptor issued in IDLE runs its command; unknown codes and aliasing buffers are refused; in BUSY a command
and a change of the input are refused. (The model's choices: the port is LOG 11, the idle
core's step LOG 14, and the order in which R274's conditions are reported, BUSY before all, aliasing before the codes,
LOG 27.) -/
def Obligations.HostPortIssuesOrRefuses : Prop :=
  ∀ (s : State) (c : Command) (k : Nat) (b : Byte) (rest : List HostAction),
    (s.blk = .idle → s.host = .issue c :: rest → c.aliasesOutput = false →
      (∀ i, decodeCommand s.cfg c = .ok i → step s = exec i { s with host := rest }) ∧
      (decodeCommand s.cfg c = .error .unknownOp → step s = .refused .unknownOp) ∧
      (decodeCommand s.cfg c = .error .unknownMode → step s = .refused .unknownMode)) ∧
    (s.blk = .idle → s.host = .issue c :: rest → c.aliasesOutput = true → step s = .refused .bufferAliased) ∧
    (s.blk = .busy → s.host = .issue c :: rest → step s = .refused .commandWhileBusy) ∧
    (s.blk = .busy → s.host = .writeInput k b :: rest → step s = .refused .inputChanged) ∧
    (s.blk = .idle → s.host = [] → step s = .next s)

/-- 45_host_interface.md R240, 60_exceptions.md R274 (b); 10_state.md R21: a command executed in BUSY, or with an
input longer than a bounded MAX_IN_LEN (LOG 7), is refused. (That BUSY is reported where the input is also too long is the model's
choice of order, LOG 27.) -/
def Obligations.CommandRefusedWhileBusyOrTooLong : Prop :=
  ∀ (s : State) (m : Mode) (input : ByteSeq) (i : Instr), (i = .compress m input ∨ i = .decompress m input) →
    (s.blk = .busy → exec i s = .refused .commandWhileBusy) ∧
    (∀ bound, s.blk = .idle → s.cfg.maxInLen = some bound → bound < input.length →
      exec i s = .refused .inputTooLong)

/-- 45_host_interface.md R243, 42_lz77_decoder.md R159, R160, 44_lz77_encoder_parser.md R220: completion writes the
result descriptor and sets `blk` to IDLE. (The model's choices: that completion is a step of its own is LOG 13, the
bit `resultValid` is LOG 9, that the field `output` is empty after an error is LOG 21.) -/
def Obligations.CompletionWritesTheResult : Prop :=
  ∀ s : State, s.blk = .busy → s.host = [] →
    (s.op = .decompress → s.dph = .done → step s =
      .next { s with blk := .idle, resultValid := true, status := .ok, output := s.out }) ∧
    (s.op = .decompress → s.dph = .failed → step s =
      .next { s with blk := .idle, resultValid := true, status := .error (.dec s.derr), output := [] }) ∧
    (s.op = .compress → s.eph = .done → step s =
      .next { s with blk := .idle, resultValid := true, status := .ok, output := s.eout }) ∧
    (s.op = .compress → s.eph = .failed → step s =
      .next { s with blk := .idle, resultValid := true, status := .error (.enc s.eerr), output := [] })

/-- 10_state.md R22, 60_exceptions.md R274 (d): the output is read only where a command has completed with OK; after
hardware reset (70_reset_and_hazards.md R290) nothing can be read and the core is IDLE. (The model's choices: that the last result stays readable while the next
command runs is LOG 9, that the other reads are refused, not faulted, is LOG 22.) -/
def Obligations.OutputReadableOnlyAfterOk : Prop :=
  (∀ s : State,
    (s.resultValid = true → s.status = .ok → s.readOutput = .ok s.output) ∧
    ((s.resultValid = false ∨ s.status ≠ .ok) → s.readOutput = .error .resultUnreadable) ∧
    (s.resultValid = false → s.readStatus = .error .resultUnreadable)) ∧
  State.reset.blk = .idle ∧ State.reset.readStatus = .error .resultUnreadable ∧
  ∀ r : Reg, State.reset.readReg r = .error .registerUnspecified

/-- 10_state.md R23, R40, 70_reset_and_hazards.md R291, R295: two states with the same configuration that start the
same command agree in everything but the last result descriptor, the model's result port and the host's coming
actions: nothing of an earlier command reaches the next. (For the registers R41 leaves unspecified at command
start this is LOG 20.) -/
def Obligations.NothingSurvivesIntoTheNextCommand : Prop :=
  ∀ (s1 s2 t1 t2 : State) (m : Mode) (input : ByteSeq) (i : Instr),
    (i = .compress m input ∨ i = .decompress m input) → s1.cfg = s2.cfg →
    exec i s1 = .next t1 → exec i s2 = .next t2 →
    t1 = { t2 with
           resultValid := s1.resultValid, status := s1.status, output := s1.output
           ures := s1.ures, host := s1.host }

/-! ### Whole-machine rules -/

/-- The invariant holds right after reset. (Its clause on the result rests on the reset value of `status`, LOG 8.) -/
def Obligations.InvariantAtReset : Prop := Inv State.reset

/-- Every step from a state that meets the invariant answers a state that meets it. (Clauses of `Inv` that are
the model's choices: `idx` holds the positions covered, LOG 5; `dsize = 0` in EXPECT_HEADER, LOG 20; no output after an
error, LOG 21.) -/
def Obligations.EveryStepKeepsTheInvariant : Prop :=
  ∀ s t : State, Inv s → step s = .next t → Inv t

/-- 20_memory.md R52, R53: the core never reads outside a buffer: from a state that meets the invariant no step
faults, whatever the host does. -/
def Obligations.NoStepFaultsUnderTheInvariant : Prop :=
  ∀ (s : State) (f : Fault), Inv s → step s ≠ .fault f

/-- From a state that meets the invariant, with the host keeping its duties, every step answers a state: the
machine never stops. -/
def Obligations.EveryStepAnswersUnderTheInvariant : Prop :=
  ∀ s : State, Inv s → s.host = [] → ∃ t, step s = .next t

/-- 10_state.md R24: `ip` advances by 4 on the header, 1 on a flag byte, 1 on a literal, 2 on a match; it never
moves backward. -/
def Obligations.InputCursorNeverMovesBackward : Prop :=
  ∀ s t : State, Inv s → s.blk = .busy → s.op = .decompress → s.host = [] → step s = .next t →
    (t.ip = s.ip ∨
      (s.dph = .expectHeader ∧ t.ip = s.ip + 4) ∨
      (s.dph = .expectFlagGroup ∧ t.ip = s.ip + 1) ∨
      (s.dph = .inGroup ∧ s.flags.getLsbD (7 - s.nbit.toNat) = false ∧ t.ip = s.ip + 1) ∨
      (s.dph = .inGroup ∧ s.flags.getLsbD (7 - s.nbit.toNat) = true ∧ t.ip = s.ip + 2))

/-- 20_memory.md R50, R54, R67; 42_lz77_decoder.md R151: during a command the input is never written, both outputs
only grow at their ends, and a decoder step appends at most one byte. The configuration and the descriptor are
constant. -/
def Obligations.BuffersAreAppendOnlyDuringACommand : Prop :=
  ∀ s t : State, Inv s → s.blk = .busy → step s = .next t →
    t.inp = s.inp ∧ s.out <+: t.out ∧ s.eout <+: t.eout ∧ t.out.length ≤ s.out.length + 1 ∧
      t.cfg = s.cfg ∧ t.op = s.op ∧ t.mode = s.mode ∧ t.emode = s.emode

/-- 60_exceptions.md R262, 44_lz77_encoder_parser.md R216: `OutOfRange` never surfaces from COMPRESS. -/
def Obligations.CompressNeverReportsOutOfRange : Prop :=
  ∀ (s t : State), Inv s → s.blk = .busy → s.op = .compress → step s = .next t → t.blk = .idle →
    t.status ≠ .error (.enc .outOfRange)

/-! ### Big steps -/

/-- 45_host_interface.md R242, 42_lz77_decoder.md R161, R166: DECOMPRESS, run by its steps, ends with the result of
`DECODE`, within the step bound (and one step to complete, LOG 13); a bad header ends it at once. The mode is
ignored. (After an error the field `output` is empty, the model's choice, LOG 21.) -/
def Obligations.DecompressEndsWithDecode : Prop :=
  ∀ (s : State) (m : Mode) (input : ByteSeq), s.blk = .idle → lengthLegal s.cfg input.length = true → s.host = [] →
    ∃ t, exec (.decompress m input) s = .next t ∧
      endsWith
        (match readHeader s.cfg.tag input with
          | .ok dsize => (1 + (dsize.toNat + 7) / 8 + 2 * dsize.toNat) + 1
          | .error _ => 1 + 1)
        (outcome .dec (decodeStream s.cfg.tag input)) t

/-- 45_host_interface.md R241, 44_lz77_encoder_parser.md R221, R226: COMPRESS, run by its steps, ends with the result
of the big-step function within `n + 2` steps (and one to complete, LOG 13). (The model's choices: under ANY_SOUND both take
the same free proposals from the same index, LOG 4, LOG 5, and R190 promises no exact bytes; after an error the field
`output` is empty, LOG 21.) -/
def Obligations.CompressEndsWithBigStep : Prop :=
  ∀ (s : State) (m : Mode) (input : ByteSeq), s.blk = .idle → lengthLegal s.cfg input.length = true → s.host = [] →
    ∃ t, exec (.compress m input) s = .next t ∧
      endsWith ((input.length + 2) + 1) (outcome .enc (compressStream s.cfg m input)) t

/-- 44_lz77_encoder_parser.md R224: the round trip, for either mode, either search and every legal configuration. -/
def Obligations.DecodeOfCompressIsTheInput : Prop :=
  ∀ (cfg : Config) (m : Mode) (b : ByteSeq), cfg.wf → b.length < 2 ^ 24 →
    ∃ bs, compressStream cfg m b = .ok bs ∧ decodeStream cfg.tag bs = .ok b

/-- 44_lz77_encoder_parser.md R225; 30_encoding.md R87: the size field of a compressed stream is the input's length,
and the stream is at most `4 + n + ceil(n / 8)` bytes. -/
def Obligations.CompressedHeaderAndLength : Prop :=
  ∀ (cfg : Config) (m : Mode) (b bs : ByteSeq), cfg.wf → compressStream cfg m b = .ok bs →
    (∃ b1 b2 b3 rest, bs = cfg.tag :: b1 :: b2 :: b3 :: rest ∧
      b1.toNat + 256 * b2.toNat + 65536 * b3.toNat = b.length) ∧
    (∃ toks, parseTokens cfg m b = .ok toks ∧
      bs.length = 4 + (toks.length + 7) / 8 + (toks.length - toks.countP kindBit) + 2 * toks.countP kindBit) ∧
    bs.length ≤ 4 + b.length + (b.length + 7) / 8

/-- 44_lz77_encoder_parser.md R222, 30_encoding.md R84: the empty input gives the header alone, by the machine's
steps, in either mode. (The second step is the completion, the model's choice, LOG 13.) -/
def Obligations.EmptyInputGivesHeaderOnly : Prop :=
  ∀ (s : State) (m : Mode), s.blk = .idle → s.host = [] →
    ∃ t, exec (.compress m []) s = .next t ∧ endsWith 2 (.ok, [s.cfg.tag, 0, 0, 0]) t

/-- 42_lz77_decoder.md R165, 30_encoding.md R83: bytes after a complete stream change nothing. -/
def Obligations.TrailingBytesAreIgnored : Prop :=
  ∀ (tag : Byte) (input trail out : ByteSeq),
    decodeStream tag input = .ok out → decodeStream tag (input ++ trail) = .ok out

/-- 30_encoding.md R91: a stream that is well formed for `n` decodes without error, to `n` bytes. -/
def Obligations.WellFormedStreamDecodes : Prop :=
  ∀ (tag : Byte) (n : Nat) (toks : List Token), n ≤ 2 ^ 24 - 1 → streamWellFormed n toks = true →
    ∃ bs out, assemble tag n toks = .ok bs ∧ decodeStream tag bs = .ok out ∧ out.length = n
end

