-- ==== Sys2Proof/Laws/State.lean ====
section
/-! SUPPORT. Each named update of the state, field by field: what it sets and what it leaves. -/

namespace Sys2Proof.Machine

@[simp] theorem State.outAppend_cfg (s : State) (b : Byte) : (s.outAppend b).cfg = s.cfg := rfl
@[simp] theorem State.outAppend_blk (s : State) (b : Byte) : (s.outAppend b).blk = s.blk := rfl
@[simp] theorem State.outAppend_op (s : State) (b : Byte) : (s.outAppend b).op = s.op := rfl
@[simp] theorem State.outAppend_mode (s : State) (b : Byte) : (s.outAppend b).mode = s.mode := rfl
@[simp] theorem State.outAppend_inp (s : State) (b : Byte) : (s.outAppend b).inp = s.inp := rfl
@[simp] theorem State.outAppend_resultValid (s : State) (b : Byte) : (s.outAppend b).resultValid = s.resultValid := rfl
@[simp] theorem State.outAppend_status (s : State) (b : Byte) : (s.outAppend b).status = s.status := rfl
@[simp] theorem State.outAppend_output (s : State) (b : Byte) : (s.outAppend b).output = s.output := rfl
@[simp] theorem State.outAppend_dph (s : State) (b : Byte) : (s.outAppend b).dph = s.dph := rfl
@[simp] theorem State.outAppend_ip (s : State) (b : Byte) : (s.outAppend b).ip = s.ip := rfl
@[simp] theorem State.outAppend_dsize (s : State) (b : Byte) : (s.outAppend b).dsize = s.dsize := rfl
@[simp] theorem State.outAppend_out (s : State) (b : Byte) : (s.outAppend b).out = s.out ++ [b] := rfl
@[simp] theorem State.outAppend_flags (s : State) (b : Byte) : (s.outAppend b).flags = s.flags := rfl
@[simp] theorem State.outAppend_nbit (s : State) (b : Byte) : (s.outAppend b).nbit = s.nbit := rfl
@[simp] theorem State.outAppend_crem (s : State) (b : Byte) : (s.outAppend b).crem = s.crem := rfl
@[simp] theorem State.outAppend_cdist (s : State) (b : Byte) : (s.outAppend b).cdist = s.cdist := rfl
@[simp] theorem State.outAppend_derr (s : State) (b : Byte) : (s.outAppend b).derr = s.derr := rfl
@[simp] theorem State.outAppend_eph (s : State) (b : Byte) : (s.outAppend b).eph = s.eph := rfl
@[simp] theorem State.outAppend_p (s : State) (b : Byte) : (s.outAppend b).p = s.p := rfl
@[simp] theorem State.outAppend_emode (s : State) (b : Byte) : (s.outAppend b).emode = s.emode := rfl
@[simp] theorem State.outAppend_grp (s : State) (b : Byte) : (s.outAppend b).grp = s.grp := rfl
@[simp] theorem State.outAppend_eout (s : State) (b : Byte) : (s.outAppend b).eout = s.eout := rfl
@[simp] theorem State.outAppend_eerr (s : State) (b : Byte) : (s.outAppend b).eerr = s.eerr := rfl
@[simp] theorem State.outAppend_idx (s : State) (b : Byte) : (s.outAppend b).idx = s.idx := rfl
@[simp] theorem State.outAppend_ures (s : State) (b : Byte) : (s.outAppend b).ures = s.ures := rfl
@[simp] theorem State.outAppend_host (s : State) (b : Byte) : (s.outAppend b).host = s.host := rfl

@[simp] theorem State.emit_cfg (s : State) (bs : ByteSeq) : (s.emit bs).cfg = s.cfg := rfl
@[simp] theorem State.emit_blk (s : State) (bs : ByteSeq) : (s.emit bs).blk = s.blk := rfl
@[simp] theorem State.emit_op (s : State) (bs : ByteSeq) : (s.emit bs).op = s.op := rfl
@[simp] theorem State.emit_mode (s : State) (bs : ByteSeq) : (s.emit bs).mode = s.mode := rfl
@[simp] theorem State.emit_inp (s : State) (bs : ByteSeq) : (s.emit bs).inp = s.inp := rfl
@[simp] theorem State.emit_resultValid (s : State) (bs : ByteSeq) : (s.emit bs).resultValid = s.resultValid := rfl
@[simp] theorem State.emit_status (s : State) (bs : ByteSeq) : (s.emit bs).status = s.status := rfl
@[simp] theorem State.emit_output (s : State) (bs : ByteSeq) : (s.emit bs).output = s.output := rfl
@[simp] theorem State.emit_dph (s : State) (bs : ByteSeq) : (s.emit bs).dph = s.dph := rfl
@[simp] theorem State.emit_ip (s : State) (bs : ByteSeq) : (s.emit bs).ip = s.ip := rfl
@[simp] theorem State.emit_dsize (s : State) (bs : ByteSeq) : (s.emit bs).dsize = s.dsize := rfl
@[simp] theorem State.emit_out (s : State) (bs : ByteSeq) : (s.emit bs).out = s.out := rfl
@[simp] theorem State.emit_flags (s : State) (bs : ByteSeq) : (s.emit bs).flags = s.flags := rfl
@[simp] theorem State.emit_nbit (s : State) (bs : ByteSeq) : (s.emit bs).nbit = s.nbit := rfl
@[simp] theorem State.emit_crem (s : State) (bs : ByteSeq) : (s.emit bs).crem = s.crem := rfl
@[simp] theorem State.emit_cdist (s : State) (bs : ByteSeq) : (s.emit bs).cdist = s.cdist := rfl
@[simp] theorem State.emit_derr (s : State) (bs : ByteSeq) : (s.emit bs).derr = s.derr := rfl
@[simp] theorem State.emit_eph (s : State) (bs : ByteSeq) : (s.emit bs).eph = s.eph := rfl
@[simp] theorem State.emit_p (s : State) (bs : ByteSeq) : (s.emit bs).p = s.p := rfl
@[simp] theorem State.emit_emode (s : State) (bs : ByteSeq) : (s.emit bs).emode = s.emode := rfl
@[simp] theorem State.emit_grp (s : State) (bs : ByteSeq) : (s.emit bs).grp = s.grp := rfl
@[simp] theorem State.emit_eout (s : State) (bs : ByteSeq) : (s.emit bs).eout = s.eout ++ bs := rfl
@[simp] theorem State.emit_eerr (s : State) (bs : ByteSeq) : (s.emit bs).eerr = s.eerr := rfl
@[simp] theorem State.emit_idx (s : State) (bs : ByteSeq) : (s.emit bs).idx = s.idx := rfl
@[simp] theorem State.emit_ures (s : State) (bs : ByteSeq) : (s.emit bs).ures = s.ures := rfl
@[simp] theorem State.emit_host (s : State) (bs : ByteSeq) : (s.emit bs).host = s.host := rfl

@[simp] theorem State.countToken_cfg (s : State) : (s.countToken).cfg = s.cfg := rfl
@[simp] theorem State.countToken_blk (s : State) : (s.countToken).blk = s.blk := rfl
@[simp] theorem State.countToken_op (s : State) : (s.countToken).op = s.op := rfl
@[simp] theorem State.countToken_mode (s : State) : (s.countToken).mode = s.mode := rfl
@[simp] theorem State.countToken_inp (s : State) : (s.countToken).inp = s.inp := rfl
@[simp] theorem State.countToken_resultValid (s : State) : (s.countToken).resultValid = s.resultValid := rfl
@[simp] theorem State.countToken_status (s : State) : (s.countToken).status = s.status := rfl
@[simp] theorem State.countToken_output (s : State) : (s.countToken).output = s.output := rfl
@[simp] theorem State.countToken_dph (s : State) : (s.countToken).dph = s.dph := rfl
@[simp] theorem State.countToken_ip (s : State) : (s.countToken).ip = s.ip := rfl
@[simp] theorem State.countToken_dsize (s : State) : (s.countToken).dsize = s.dsize := rfl
@[simp] theorem State.countToken_out (s : State) : (s.countToken).out = s.out := rfl
@[simp] theorem State.countToken_flags (s : State) : (s.countToken).flags = s.flags := rfl
@[simp] theorem State.countToken_nbit (s : State) : (s.countToken).nbit = s.nbit + 1 := rfl
@[simp] theorem State.countToken_crem (s : State) : (s.countToken).crem = s.crem := rfl
@[simp] theorem State.countToken_cdist (s : State) : (s.countToken).cdist = s.cdist := rfl
@[simp] theorem State.countToken_derr (s : State) : (s.countToken).derr = s.derr := rfl
@[simp] theorem State.countToken_eph (s : State) : (s.countToken).eph = s.eph := rfl
@[simp] theorem State.countToken_p (s : State) : (s.countToken).p = s.p := rfl
@[simp] theorem State.countToken_emode (s : State) : (s.countToken).emode = s.emode := rfl
@[simp] theorem State.countToken_grp (s : State) : (s.countToken).grp = s.grp := rfl
@[simp] theorem State.countToken_eout (s : State) : (s.countToken).eout = s.eout := rfl
@[simp] theorem State.countToken_eerr (s : State) : (s.countToken).eerr = s.eerr := rfl
@[simp] theorem State.countToken_idx (s : State) : (s.countToken).idx = s.idx := rfl
@[simp] theorem State.countToken_ures (s : State) : (s.countToken).ures = s.ures := rfl
@[simp] theorem State.countToken_host (s : State) : (s.countToken).host = s.host := rfl

@[simp] theorem raise_dec_cfg (e : DecodeError) (s : State) : (raise (.dec e) s).cfg = s.cfg := rfl
@[simp] theorem raise_dec_blk (e : DecodeError) (s : State) : (raise (.dec e) s).blk = s.blk := rfl
@[simp] theorem raise_dec_op (e : DecodeError) (s : State) : (raise (.dec e) s).op = s.op := rfl
@[simp] theorem raise_dec_mode (e : DecodeError) (s : State) : (raise (.dec e) s).mode = s.mode := rfl
@[simp] theorem raise_dec_inp (e : DecodeError) (s : State) : (raise (.dec e) s).inp = s.inp := rfl
@[simp] theorem raise_dec_resultValid (e : DecodeError) (s : State) : (raise (.dec e) s).resultValid = s.resultValid := rfl
@[simp] theorem raise_dec_status (e : DecodeError) (s : State) : (raise (.dec e) s).status = s.status := rfl
@[simp] theorem raise_dec_output (e : DecodeError) (s : State) : (raise (.dec e) s).output = s.output := rfl
@[simp] theorem raise_dec_dph (e : DecodeError) (s : State) : (raise (.dec e) s).dph = .failed := rfl
@[simp] theorem raise_dec_ip (e : DecodeError) (s : State) : (raise (.dec e) s).ip = s.ip := rfl
@[simp] theorem raise_dec_dsize (e : DecodeError) (s : State) : (raise (.dec e) s).dsize = s.dsize := rfl
@[simp] theorem raise_dec_out (e : DecodeError) (s : State) : (raise (.dec e) s).out = s.out := rfl
@[simp] theorem raise_dec_flags (e : DecodeError) (s : State) : (raise (.dec e) s).flags = s.flags := rfl
@[simp] theorem raise_dec_nbit (e : DecodeError) (s : State) : (raise (.dec e) s).nbit = s.nbit := rfl
@[simp] theorem raise_dec_crem (e : DecodeError) (s : State) : (raise (.dec e) s).crem = s.crem := rfl
@[simp] theorem raise_dec_cdist (e : DecodeError) (s : State) : (raise (.dec e) s).cdist = s.cdist := rfl
@[simp] theorem raise_dec_derr (e : DecodeError) (s : State) : (raise (.dec e) s).derr = e := rfl
@[simp] theorem raise_dec_eph (e : DecodeError) (s : State) : (raise (.dec e) s).eph = s.eph := rfl
@[simp] theorem raise_dec_p (e : DecodeError) (s : State) : (raise (.dec e) s).p = s.p := rfl
@[simp] theorem raise_dec_emode (e : DecodeError) (s : State) : (raise (.dec e) s).emode = s.emode := rfl
@[simp] theorem raise_dec_grp (e : DecodeError) (s : State) : (raise (.dec e) s).grp = s.grp := rfl
@[simp] theorem raise_dec_eout (e : DecodeError) (s : State) : (raise (.dec e) s).eout = s.eout := rfl
@[simp] theorem raise_dec_eerr (e : DecodeError) (s : State) : (raise (.dec e) s).eerr = s.eerr := rfl
@[simp] theorem raise_dec_idx (e : DecodeError) (s : State) : (raise (.dec e) s).idx = s.idx := rfl
@[simp] theorem raise_dec_ures (e : DecodeError) (s : State) : (raise (.dec e) s).ures = s.ures := rfl
@[simp] theorem raise_dec_host (e : DecodeError) (s : State) : (raise (.dec e) s).host = s.host := rfl

@[simp] theorem raise_enc_cfg (e : EncodeError) (s : State) : (raise (.enc e) s).cfg = s.cfg := rfl
@[simp] theorem raise_enc_blk (e : EncodeError) (s : State) : (raise (.enc e) s).blk = s.blk := rfl
@[simp] theorem raise_enc_op (e : EncodeError) (s : State) : (raise (.enc e) s).op = s.op := rfl
@[simp] theorem raise_enc_mode (e : EncodeError) (s : State) : (raise (.enc e) s).mode = s.mode := rfl
@[simp] theorem raise_enc_inp (e : EncodeError) (s : State) : (raise (.enc e) s).inp = s.inp := rfl
@[simp] theorem raise_enc_resultValid (e : EncodeError) (s : State) : (raise (.enc e) s).resultValid = s.resultValid := rfl
@[simp] theorem raise_enc_status (e : EncodeError) (s : State) : (raise (.enc e) s).status = s.status := rfl
@[simp] theorem raise_enc_output (e : EncodeError) (s : State) : (raise (.enc e) s).output = s.output := rfl
@[simp] theorem raise_enc_dph (e : EncodeError) (s : State) : (raise (.enc e) s).dph = s.dph := rfl
@[simp] theorem raise_enc_ip (e : EncodeError) (s : State) : (raise (.enc e) s).ip = s.ip := rfl
@[simp] theorem raise_enc_dsize (e : EncodeError) (s : State) : (raise (.enc e) s).dsize = s.dsize := rfl
@[simp] theorem raise_enc_out (e : EncodeError) (s : State) : (raise (.enc e) s).out = s.out := rfl
@[simp] theorem raise_enc_flags (e : EncodeError) (s : State) : (raise (.enc e) s).flags = s.flags := rfl
@[simp] theorem raise_enc_nbit (e : EncodeError) (s : State) : (raise (.enc e) s).nbit = s.nbit := rfl
@[simp] theorem raise_enc_crem (e : EncodeError) (s : State) : (raise (.enc e) s).crem = s.crem := rfl
@[simp] theorem raise_enc_cdist (e : EncodeError) (s : State) : (raise (.enc e) s).cdist = s.cdist := rfl
@[simp] theorem raise_enc_derr (e : EncodeError) (s : State) : (raise (.enc e) s).derr = s.derr := rfl
@[simp] theorem raise_enc_eph (e : EncodeError) (s : State) : (raise (.enc e) s).eph = .failed := rfl
@[simp] theorem raise_enc_p (e : EncodeError) (s : State) : (raise (.enc e) s).p = s.p := rfl
@[simp] theorem raise_enc_emode (e : EncodeError) (s : State) : (raise (.enc e) s).emode = s.emode := rfl
@[simp] theorem raise_enc_grp (e : EncodeError) (s : State) : (raise (.enc e) s).grp = s.grp := rfl
@[simp] theorem raise_enc_eout (e : EncodeError) (s : State) : (raise (.enc e) s).eout = s.eout := rfl
@[simp] theorem raise_enc_eerr (e : EncodeError) (s : State) : (raise (.enc e) s).eerr = e := rfl
@[simp] theorem raise_enc_idx (e : EncodeError) (s : State) : (raise (.enc e) s).idx = s.idx := rfl
@[simp] theorem raise_enc_ures (e : EncodeError) (s : State) : (raise (.enc e) s).ures = s.ures := rfl
@[simp] theorem raise_enc_host (e : EncodeError) (s : State) : (raise (.enc e) s).host = s.host := rfl

@[simp] theorem finish_cfg (st : Status) (bs : ByteSeq) (s : State) : (finish st bs s).cfg = s.cfg := rfl
@[simp] theorem finish_blk (st : Status) (bs : ByteSeq) (s : State) : (finish st bs s).blk = .idle := rfl
@[simp] theorem finish_op (st : Status) (bs : ByteSeq) (s : State) : (finish st bs s).op = s.op := rfl
@[simp] theorem finish_mode (st : Status) (bs : ByteSeq) (s : State) : (finish st bs s).mode = s.mode := rfl
@[simp] theorem finish_inp (st : Status) (bs : ByteSeq) (s : State) : (finish st bs s).inp = s.inp := rfl
@[simp] theorem finish_resultValid (st : Status) (bs : ByteSeq) (s : State) : (finish st bs s).resultValid = true := rfl
@[simp] theorem finish_status (st : Status) (bs : ByteSeq) (s : State) : (finish st bs s).status = st := rfl
@[simp] theorem finish_output (st : Status) (bs : ByteSeq) (s : State) : (finish st bs s).output = bs := rfl
@[simp] theorem finish_dph (st : Status) (bs : ByteSeq) (s : State) : (finish st bs s).dph = s.dph := rfl
@[simp] theorem finish_ip (st : Status) (bs : ByteSeq) (s : State) : (finish st bs s).ip = s.ip := rfl
@[simp] theorem finish_dsize (st : Status) (bs : ByteSeq) (s : State) : (finish st bs s).dsize = s.dsize := rfl
@[simp] theorem finish_out (st : Status) (bs : ByteSeq) (s : State) : (finish st bs s).out = s.out := rfl
@[simp] theorem finish_flags (st : Status) (bs : ByteSeq) (s : State) : (finish st bs s).flags = s.flags := rfl
@[simp] theorem finish_nbit (st : Status) (bs : ByteSeq) (s : State) : (finish st bs s).nbit = s.nbit := rfl
@[simp] theorem finish_crem (st : Status) (bs : ByteSeq) (s : State) : (finish st bs s).crem = s.crem := rfl
@[simp] theorem finish_cdist (st : Status) (bs : ByteSeq) (s : State) : (finish st bs s).cdist = s.cdist := rfl
@[simp] theorem finish_derr (st : Status) (bs : ByteSeq) (s : State) : (finish st bs s).derr = s.derr := rfl
@[simp] theorem finish_eph (st : Status) (bs : ByteSeq) (s : State) : (finish st bs s).eph = s.eph := rfl
@[simp] theorem finish_p (st : Status) (bs : ByteSeq) (s : State) : (finish st bs s).p = s.p := rfl
@[simp] theorem finish_emode (st : Status) (bs : ByteSeq) (s : State) : (finish st bs s).emode = s.emode := rfl
@[simp] theorem finish_grp (st : Status) (bs : ByteSeq) (s : State) : (finish st bs s).grp = s.grp := rfl
@[simp] theorem finish_eout (st : Status) (bs : ByteSeq) (s : State) : (finish st bs s).eout = s.eout := rfl
@[simp] theorem finish_eerr (st : Status) (bs : ByteSeq) (s : State) : (finish st bs s).eerr = s.eerr := rfl
@[simp] theorem finish_idx (st : Status) (bs : ByteSeq) (s : State) : (finish st bs s).idx = s.idx := rfl
@[simp] theorem finish_ures (st : Status) (bs : ByteSeq) (s : State) : (finish st bs s).ures = s.ures := rfl
@[simp] theorem finish_host (st : Status) (bs : ByteSeq) (s : State) : (finish st bs s).host = s.host := rfl

@[simp] theorem started_cfg (o : Op) (m : Mode) (input : ByteSeq) (s : State) : (started o m input s).cfg = s.cfg := rfl
@[simp] theorem started_blk (o : Op) (m : Mode) (input : ByteSeq) (s : State) : (started o m input s).blk = .busy := rfl
@[simp] theorem started_op (o : Op) (m : Mode) (input : ByteSeq) (s : State) : (started o m input s).op = o := rfl
@[simp] theorem started_mode (o : Op) (m : Mode) (input : ByteSeq) (s : State) : (started o m input s).mode = m := rfl
@[simp] theorem started_inp (o : Op) (m : Mode) (input : ByteSeq) (s : State) : (started o m input s).inp = input := rfl
@[simp] theorem started_resultValid (o : Op) (m : Mode) (input : ByteSeq) (s : State) : (started o m input s).resultValid = s.resultValid := rfl
@[simp] theorem started_status (o : Op) (m : Mode) (input : ByteSeq) (s : State) : (started o m input s).status = s.status := rfl
@[simp] theorem started_output (o : Op) (m : Mode) (input : ByteSeq) (s : State) : (started o m input s).output = s.output := rfl
@[simp] theorem started_dph (o : Op) (m : Mode) (input : ByteSeq) (s : State) : (started o m input s).dph = .expectHeader := rfl
@[simp] theorem started_ip (o : Op) (m : Mode) (input : ByteSeq) (s : State) : (started o m input s).ip = 0 := rfl
@[simp] theorem started_dsize (o : Op) (m : Mode) (input : ByteSeq) (s : State) : (started o m input s).dsize = 0 := rfl
@[simp] theorem started_out (o : Op) (m : Mode) (input : ByteSeq) (s : State) : (started o m input s).out = [] := rfl
@[simp] theorem started_flags (o : Op) (m : Mode) (input : ByteSeq) (s : State) : (started o m input s).flags = 0 := rfl
@[simp] theorem started_nbit (o : Op) (m : Mode) (input : ByteSeq) (s : State) : (started o m input s).nbit = 0 := rfl
@[simp] theorem started_crem (o : Op) (m : Mode) (input : ByteSeq) (s : State) : (started o m input s).crem = 0 := rfl
@[simp] theorem started_cdist (o : Op) (m : Mode) (input : ByteSeq) (s : State) : (started o m input s).cdist = 0 := rfl
@[simp] theorem started_derr (o : Op) (m : Mode) (input : ByteSeq) (s : State) : (started o m input s).derr = .badMagic := rfl
@[simp] theorem started_eph (o : Op) (m : Mode) (input : ByteSeq) (s : State) : (started o m input s).eph = .start := rfl
@[simp] theorem started_p (o : Op) (m : Mode) (input : ByteSeq) (s : State) : (started o m input s).p = 0 := rfl
@[simp] theorem started_emode (o : Op) (m : Mode) (input : ByteSeq) (s : State) : (started o m input s).emode = m := rfl
@[simp] theorem started_grp (o : Op) (m : Mode) (input : ByteSeq) (s : State) : (started o m input s).grp = [] := rfl
@[simp] theorem started_eout (o : Op) (m : Mode) (input : ByteSeq) (s : State) : (started o m input s).eout = [] := rfl
@[simp] theorem started_eerr (o : Op) (m : Mode) (input : ByteSeq) (s : State) : (started o m input s).eerr = .outOfRange := rfl
@[simp] theorem started_idx (o : Op) (m : Mode) (input : ByteSeq) (s : State) : (started o m input s).idx = [] := rfl
@[simp] theorem started_ures (o : Op) (m : Mode) (input : ByteSeq) (s : State) : (started o m input s).ures = s.ures := rfl
@[simp] theorem started_host (o : Op) (m : Mode) (input : ByteSeq) (s : State) : (started o m input s).host = s.host := rfl

@[simp] theorem boundary_cfg (s : State) : (boundary s).cfg = s.cfg := rfl
@[simp] theorem boundary_blk (s : State) : (boundary s).blk = s.blk := rfl
@[simp] theorem boundary_op (s : State) : (boundary s).op = s.op := rfl
@[simp] theorem boundary_mode (s : State) : (boundary s).mode = s.mode := rfl
@[simp] theorem boundary_inp (s : State) : (boundary s).inp = s.inp := rfl
@[simp] theorem boundary_resultValid (s : State) : (boundary s).resultValid = s.resultValid := rfl
@[simp] theorem boundary_status (s : State) : (boundary s).status = s.status := rfl
@[simp] theorem boundary_output (s : State) : (boundary s).output = s.output := rfl
@[simp] theorem boundary_ip (s : State) : (boundary s).ip = s.ip := rfl
@[simp] theorem boundary_dsize (s : State) : (boundary s).dsize = s.dsize := rfl
@[simp] theorem boundary_out (s : State) : (boundary s).out = s.out := rfl
@[simp] theorem boundary_flags (s : State) : (boundary s).flags = s.flags := rfl
@[simp] theorem boundary_nbit (s : State) : (boundary s).nbit = s.nbit := rfl
@[simp] theorem boundary_crem (s : State) : (boundary s).crem = s.crem := rfl
@[simp] theorem boundary_cdist (s : State) : (boundary s).cdist = s.cdist := rfl
@[simp] theorem boundary_derr (s : State) : (boundary s).derr = s.derr := rfl
@[simp] theorem boundary_eph (s : State) : (boundary s).eph = s.eph := rfl
@[simp] theorem boundary_p (s : State) : (boundary s).p = s.p := rfl
@[simp] theorem boundary_emode (s : State) : (boundary s).emode = s.emode := rfl
@[simp] theorem boundary_grp (s : State) : (boundary s).grp = s.grp := rfl
@[simp] theorem boundary_eout (s : State) : (boundary s).eout = s.eout := rfl
@[simp] theorem boundary_eerr (s : State) : (boundary s).eerr = s.eerr := rfl
@[simp] theorem boundary_idx (s : State) : (boundary s).idx = s.idx := rfl
@[simp] theorem boundary_ures (s : State) : (boundary s).ures = s.ures := rfl
@[simp] theorem boundary_host (s : State) : (boundary s).host = s.host := rfl

@[simp] theorem startCopy_cfg (L D : Nat) (s : State) : (startCopy L D s).cfg = s.cfg := rfl
@[simp] theorem startCopy_blk (L D : Nat) (s : State) : (startCopy L D s).blk = s.blk := rfl
@[simp] theorem startCopy_op (L D : Nat) (s : State) : (startCopy L D s).op = s.op := rfl
@[simp] theorem startCopy_mode (L D : Nat) (s : State) : (startCopy L D s).mode = s.mode := rfl
@[simp] theorem startCopy_inp (L D : Nat) (s : State) : (startCopy L D s).inp = s.inp := rfl
@[simp] theorem startCopy_resultValid (L D : Nat) (s : State) : (startCopy L D s).resultValid = s.resultValid := rfl
@[simp] theorem startCopy_status (L D : Nat) (s : State) : (startCopy L D s).status = s.status := rfl
@[simp] theorem startCopy_output (L D : Nat) (s : State) : (startCopy L D s).output = s.output := rfl
@[simp] theorem startCopy_dph (L D : Nat) (s : State) : (startCopy L D s).dph = .copying := rfl
@[simp] theorem startCopy_ip (L D : Nat) (s : State) : (startCopy L D s).ip = s.ip := rfl
@[simp] theorem startCopy_dsize (L D : Nat) (s : State) : (startCopy L D s).dsize = s.dsize := rfl
@[simp] theorem startCopy_out (L D : Nat) (s : State) : (startCopy L D s).out = s.out := rfl
@[simp] theorem startCopy_flags (L D : Nat) (s : State) : (startCopy L D s).flags = s.flags := rfl
@[simp] theorem startCopy_nbit (L D : Nat) (s : State) : (startCopy L D s).nbit = s.nbit + 1 := rfl
@[simp] theorem startCopy_crem (L D : Nat) (s : State) : (startCopy L D s).crem = BitVec.ofNat 5 L := rfl
@[simp] theorem startCopy_cdist (L D : Nat) (s : State) : (startCopy L D s).cdist = BitVec.ofNat 13 D := rfl
@[simp] theorem startCopy_derr (L D : Nat) (s : State) : (startCopy L D s).derr = s.derr := rfl
@[simp] theorem startCopy_eph (L D : Nat) (s : State) : (startCopy L D s).eph = s.eph := rfl
@[simp] theorem startCopy_p (L D : Nat) (s : State) : (startCopy L D s).p = s.p := rfl
@[simp] theorem startCopy_emode (L D : Nat) (s : State) : (startCopy L D s).emode = s.emode := rfl
@[simp] theorem startCopy_grp (L D : Nat) (s : State) : (startCopy L D s).grp = s.grp := rfl
@[simp] theorem startCopy_eout (L D : Nat) (s : State) : (startCopy L D s).eout = s.eout := rfl
@[simp] theorem startCopy_eerr (L D : Nat) (s : State) : (startCopy L D s).eerr = s.eerr := rfl
@[simp] theorem startCopy_idx (L D : Nat) (s : State) : (startCopy L D s).idx = s.idx := rfl
@[simp] theorem startCopy_ures (L D : Nat) (s : State) : (startCopy L D s).ures = s.ures := rfl
@[simp] theorem startCopy_host (L D : Nat) (s : State) : (startCopy L D s).host = s.host := rfl

@[simp] theorem copyByte_cfg (b : Byte) (s : State) : (copyByte b s).cfg = s.cfg := rfl
@[simp] theorem copyByte_blk (b : Byte) (s : State) : (copyByte b s).blk = s.blk := rfl
@[simp] theorem copyByte_op (b : Byte) (s : State) : (copyByte b s).op = s.op := rfl
@[simp] theorem copyByte_mode (b : Byte) (s : State) : (copyByte b s).mode = s.mode := rfl
@[simp] theorem copyByte_inp (b : Byte) (s : State) : (copyByte b s).inp = s.inp := rfl
@[simp] theorem copyByte_resultValid (b : Byte) (s : State) : (copyByte b s).resultValid = s.resultValid := rfl
@[simp] theorem copyByte_status (b : Byte) (s : State) : (copyByte b s).status = s.status := rfl
@[simp] theorem copyByte_output (b : Byte) (s : State) : (copyByte b s).output = s.output := rfl
@[simp] theorem copyByte_dph (b : Byte) (s : State) : (copyByte b s).dph = s.dph := rfl
@[simp] theorem copyByte_ip (b : Byte) (s : State) : (copyByte b s).ip = s.ip := rfl
@[simp] theorem copyByte_dsize (b : Byte) (s : State) : (copyByte b s).dsize = s.dsize := rfl
@[simp] theorem copyByte_out (b : Byte) (s : State) : (copyByte b s).out = s.out ++ [b] := rfl
@[simp] theorem copyByte_flags (b : Byte) (s : State) : (copyByte b s).flags = s.flags := rfl
@[simp] theorem copyByte_nbit (b : Byte) (s : State) : (copyByte b s).nbit = s.nbit := rfl
@[simp] theorem copyByte_crem (b : Byte) (s : State) : (copyByte b s).crem = s.crem - 1 := rfl
@[simp] theorem copyByte_cdist (b : Byte) (s : State) : (copyByte b s).cdist = s.cdist := rfl
@[simp] theorem copyByte_derr (b : Byte) (s : State) : (copyByte b s).derr = s.derr := rfl
@[simp] theorem copyByte_eph (b : Byte) (s : State) : (copyByte b s).eph = s.eph := rfl
@[simp] theorem copyByte_p (b : Byte) (s : State) : (copyByte b s).p = s.p := rfl
@[simp] theorem copyByte_emode (b : Byte) (s : State) : (copyByte b s).emode = s.emode := rfl
@[simp] theorem copyByte_grp (b : Byte) (s : State) : (copyByte b s).grp = s.grp := rfl
@[simp] theorem copyByte_eout (b : Byte) (s : State) : (copyByte b s).eout = s.eout := rfl
@[simp] theorem copyByte_eerr (b : Byte) (s : State) : (copyByte b s).eerr = s.eerr := rfl
@[simp] theorem copyByte_idx (b : Byte) (s : State) : (copyByte b s).idx = s.idx := rfl
@[simp] theorem copyByte_ures (b : Byte) (s : State) : (copyByte b s).ures = s.ures := rfl
@[simp] theorem copyByte_host (b : Byte) (s : State) : (copyByte b s).host = s.host := rfl

@[simp] theorem groupOut_cfg (s : State) : (groupOut s).cfg = s.cfg := rfl
@[simp] theorem groupOut_blk (s : State) : (groupOut s).blk = s.blk := rfl
@[simp] theorem groupOut_op (s : State) : (groupOut s).op = s.op := rfl
@[simp] theorem groupOut_mode (s : State) : (groupOut s).mode = s.mode := rfl
@[simp] theorem groupOut_inp (s : State) : (groupOut s).inp = s.inp := rfl
@[simp] theorem groupOut_resultValid (s : State) : (groupOut s).resultValid = s.resultValid := rfl
@[simp] theorem groupOut_status (s : State) : (groupOut s).status = s.status := rfl
@[simp] theorem groupOut_output (s : State) : (groupOut s).output = s.output := rfl
@[simp] theorem groupOut_dph (s : State) : (groupOut s).dph = s.dph := rfl
@[simp] theorem groupOut_ip (s : State) : (groupOut s).ip = s.ip := rfl
@[simp] theorem groupOut_dsize (s : State) : (groupOut s).dsize = s.dsize := rfl
@[simp] theorem groupOut_out (s : State) : (groupOut s).out = s.out := rfl
@[simp] theorem groupOut_flags (s : State) : (groupOut s).flags = s.flags := rfl
@[simp] theorem groupOut_nbit (s : State) : (groupOut s).nbit = s.nbit := rfl
@[simp] theorem groupOut_crem (s : State) : (groupOut s).crem = s.crem := rfl
@[simp] theorem groupOut_cdist (s : State) : (groupOut s).cdist = s.cdist := rfl
@[simp] theorem groupOut_derr (s : State) : (groupOut s).derr = s.derr := rfl
@[simp] theorem groupOut_eph (s : State) : (groupOut s).eph = s.eph := rfl
@[simp] theorem groupOut_p (s : State) : (groupOut s).p = s.p := rfl
@[simp] theorem groupOut_emode (s : State) : (groupOut s).emode = s.emode := rfl
@[simp] theorem groupOut_grp (s : State) : (groupOut s).grp = [] := rfl
@[simp] theorem groupOut_eout (s : State) : (groupOut s).eout = s.eout ++ writeTokens s.grp := rfl
@[simp] theorem groupOut_eerr (s : State) : (groupOut s).eerr = s.eerr := rfl
@[simp] theorem groupOut_idx (s : State) : (groupOut s).idx = s.idx := rfl
@[simp] theorem groupOut_ures (s : State) : (groupOut s).ures = s.ures := rfl
@[simp] theorem groupOut_host (s : State) : (groupOut s).host = s.host := rfl

@[simp] theorem pushToken_cfg (t : Token) (s : State) : (pushToken t s).cfg = s.cfg := rfl
@[simp] theorem pushToken_blk (t : Token) (s : State) : (pushToken t s).blk = s.blk := rfl
@[simp] theorem pushToken_op (t : Token) (s : State) : (pushToken t s).op = s.op := rfl
@[simp] theorem pushToken_mode (t : Token) (s : State) : (pushToken t s).mode = s.mode := rfl
@[simp] theorem pushToken_inp (t : Token) (s : State) : (pushToken t s).inp = s.inp := rfl
@[simp] theorem pushToken_resultValid (t : Token) (s : State) : (pushToken t s).resultValid = s.resultValid := rfl
@[simp] theorem pushToken_status (t : Token) (s : State) : (pushToken t s).status = s.status := rfl
@[simp] theorem pushToken_output (t : Token) (s : State) : (pushToken t s).output = s.output := rfl
@[simp] theorem pushToken_dph (t : Token) (s : State) : (pushToken t s).dph = s.dph := rfl
@[simp] theorem pushToken_ip (t : Token) (s : State) : (pushToken t s).ip = s.ip := rfl
@[simp] theorem pushToken_dsize (t : Token) (s : State) : (pushToken t s).dsize = s.dsize := rfl
@[simp] theorem pushToken_out (t : Token) (s : State) : (pushToken t s).out = s.out := rfl
@[simp] theorem pushToken_flags (t : Token) (s : State) : (pushToken t s).flags = s.flags := rfl
@[simp] theorem pushToken_nbit (t : Token) (s : State) : (pushToken t s).nbit = s.nbit := rfl
@[simp] theorem pushToken_crem (t : Token) (s : State) : (pushToken t s).crem = s.crem := rfl
@[simp] theorem pushToken_cdist (t : Token) (s : State) : (pushToken t s).cdist = s.cdist := rfl
@[simp] theorem pushToken_derr (t : Token) (s : State) : (pushToken t s).derr = s.derr := rfl
@[simp] theorem pushToken_eph (t : Token) (s : State) : (pushToken t s).eph = s.eph := rfl
@[simp] theorem pushToken_p (t : Token) (s : State) : (pushToken t s).p = s.p + dlen t := rfl
@[simp] theorem pushToken_emode (t : Token) (s : State) : (pushToken t s).emode = s.emode := rfl
@[simp] theorem pushToken_grp (t : Token) (s : State) : (pushToken t s).grp = s.grp ++ [t] := rfl
@[simp] theorem pushToken_eout (t : Token) (s : State) : (pushToken t s).eout = s.eout := rfl
@[simp] theorem pushToken_eerr (t : Token) (s : State) : (pushToken t s).eerr = s.eerr := rfl
@[simp] theorem pushToken_idx (t : Token) (s : State) : (pushToken t s).idx = s.idx ++ List.range' s.p (dlen t) := rfl
@[simp] theorem pushToken_ures (t : Token) (s : State) : (pushToken t s).ures = s.ures := rfl
@[simp] theorem pushToken_host (t : Token) (s : State) : (pushToken t s).host = s.host := rfl

@[simp] theorem endOfInput_cfg (s : State) : (endOfInput s).cfg = s.cfg := rfl
@[simp] theorem endOfInput_blk (s : State) : (endOfInput s).blk = s.blk := rfl
@[simp] theorem endOfInput_op (s : State) : (endOfInput s).op = s.op := rfl
@[simp] theorem endOfInput_mode (s : State) : (endOfInput s).mode = s.mode := rfl
@[simp] theorem endOfInput_inp (s : State) : (endOfInput s).inp = s.inp := rfl
@[simp] theorem endOfInput_resultValid (s : State) : (endOfInput s).resultValid = s.resultValid := rfl
@[simp] theorem endOfInput_status (s : State) : (endOfInput s).status = s.status := rfl
@[simp] theorem endOfInput_output (s : State) : (endOfInput s).output = s.output := rfl
@[simp] theorem endOfInput_dph (s : State) : (endOfInput s).dph = s.dph := rfl
@[simp] theorem endOfInput_ip (s : State) : (endOfInput s).ip = s.ip := rfl
@[simp] theorem endOfInput_dsize (s : State) : (endOfInput s).dsize = s.dsize := rfl
@[simp] theorem endOfInput_out (s : State) : (endOfInput s).out = s.out := rfl
@[simp] theorem endOfInput_flags (s : State) : (endOfInput s).flags = s.flags := rfl
@[simp] theorem endOfInput_nbit (s : State) : (endOfInput s).nbit = s.nbit := rfl
@[simp] theorem endOfInput_crem (s : State) : (endOfInput s).crem = s.crem := rfl
@[simp] theorem endOfInput_cdist (s : State) : (endOfInput s).cdist = s.cdist := rfl
@[simp] theorem endOfInput_derr (s : State) : (endOfInput s).derr = s.derr := rfl
@[simp] theorem endOfInput_p (s : State) : (endOfInput s).p = s.p := rfl
@[simp] theorem endOfInput_emode (s : State) : (endOfInput s).emode = s.emode := rfl
@[simp] theorem endOfInput_grp (s : State) : (endOfInput s).grp = s.grp := rfl
@[simp] theorem endOfInput_eout (s : State) : (endOfInput s).eout = s.eout := rfl
@[simp] theorem endOfInput_eerr (s : State) : (endOfInput s).eerr = s.eerr := rfl
@[simp] theorem endOfInput_idx (s : State) : (endOfInput s).idx = s.idx := rfl
@[simp] theorem endOfInput_ures (s : State) : (endOfInput s).ures = s.ures := rfl
@[simp] theorem endOfInput_host (s : State) : (endOfInput s).host = s.host := rfl

@[simp] theorem endFlush_cfg (s : State) : (endFlush s).cfg = s.cfg := rfl
@[simp] theorem endFlush_blk (s : State) : (endFlush s).blk = s.blk := rfl
@[simp] theorem endFlush_op (s : State) : (endFlush s).op = s.op := rfl
@[simp] theorem endFlush_mode (s : State) : (endFlush s).mode = s.mode := rfl
@[simp] theorem endFlush_inp (s : State) : (endFlush s).inp = s.inp := rfl
@[simp] theorem endFlush_resultValid (s : State) : (endFlush s).resultValid = s.resultValid := rfl
@[simp] theorem endFlush_status (s : State) : (endFlush s).status = s.status := rfl
@[simp] theorem endFlush_output (s : State) : (endFlush s).output = s.output := rfl
@[simp] theorem endFlush_dph (s : State) : (endFlush s).dph = s.dph := rfl
@[simp] theorem endFlush_ip (s : State) : (endFlush s).ip = s.ip := rfl
@[simp] theorem endFlush_dsize (s : State) : (endFlush s).dsize = s.dsize := rfl
@[simp] theorem endFlush_out (s : State) : (endFlush s).out = s.out := rfl
@[simp] theorem endFlush_flags (s : State) : (endFlush s).flags = s.flags := rfl
@[simp] theorem endFlush_nbit (s : State) : (endFlush s).nbit = s.nbit := rfl
@[simp] theorem endFlush_crem (s : State) : (endFlush s).crem = s.crem := rfl
@[simp] theorem endFlush_cdist (s : State) : (endFlush s).cdist = s.cdist := rfl
@[simp] theorem endFlush_derr (s : State) : (endFlush s).derr = s.derr := rfl
@[simp] theorem endFlush_eph (s : State) : (endFlush s).eph = .done := rfl
@[simp] theorem endFlush_p (s : State) : (endFlush s).p = s.p := rfl
@[simp] theorem endFlush_emode (s : State) : (endFlush s).emode = s.emode := rfl
@[simp] theorem endFlush_grp (s : State) : (endFlush s).grp = s.grp := rfl
@[simp] theorem endFlush_eout (s : State) : (endFlush s).eout = s.eout := rfl
@[simp] theorem endFlush_eerr (s : State) : (endFlush s).eerr = s.eerr := rfl
@[simp] theorem endFlush_idx (s : State) : (endFlush s).idx = s.idx := rfl
@[simp] theorem endFlush_ures (s : State) : (endFlush s).ures = s.ures := rfl
@[simp] theorem endFlush_host (s : State) : (endFlush s).host = s.host := rfl

@[simp] theorem groupOutIfFull_cfg (s : State) : (groupOutIfFull s).cfg = s.cfg := by unfold groupOutIfFull; split <;> rfl
@[simp] theorem groupOutIfFull_blk (s : State) : (groupOutIfFull s).blk = s.blk := by unfold groupOutIfFull; split <;> rfl
@[simp] theorem groupOutIfFull_op (s : State) : (groupOutIfFull s).op = s.op := by unfold groupOutIfFull; split <;> rfl
@[simp] theorem groupOutIfFull_mode (s : State) : (groupOutIfFull s).mode = s.mode := by unfold groupOutIfFull; split <;> rfl
@[simp] theorem groupOutIfFull_inp (s : State) : (groupOutIfFull s).inp = s.inp := by unfold groupOutIfFull; split <;> rfl
@[simp] theorem groupOutIfFull_resultValid (s : State) : (groupOutIfFull s).resultValid = s.resultValid := by unfold groupOutIfFull; split <;> rfl
@[simp] theorem groupOutIfFull_status (s : State) : (groupOutIfFull s).status = s.status := by unfold groupOutIfFull; split <;> rfl
@[simp] theorem groupOutIfFull_output (s : State) : (groupOutIfFull s).output = s.output := by unfold groupOutIfFull; split <;> rfl
@[simp] theorem groupOutIfFull_dph (s : State) : (groupOutIfFull s).dph = s.dph := by unfold groupOutIfFull; split <;> rfl
@[simp] theorem groupOutIfFull_ip (s : State) : (groupOutIfFull s).ip = s.ip := by unfold groupOutIfFull; split <;> rfl
@[simp] theorem groupOutIfFull_dsize (s : State) : (groupOutIfFull s).dsize = s.dsize := by unfold groupOutIfFull; split <;> rfl
@[simp] theorem groupOutIfFull_out (s : State) : (groupOutIfFull s).out = s.out := by unfold groupOutIfFull; split <;> rfl
@[simp] theorem groupOutIfFull_flags (s : State) : (groupOutIfFull s).flags = s.flags := by unfold groupOutIfFull; split <;> rfl
@[simp] theorem groupOutIfFull_nbit (s : State) : (groupOutIfFull s).nbit = s.nbit := by unfold groupOutIfFull; split <;> rfl
@[simp] theorem groupOutIfFull_crem (s : State) : (groupOutIfFull s).crem = s.crem := by unfold groupOutIfFull; split <;> rfl
@[simp] theorem groupOutIfFull_cdist (s : State) : (groupOutIfFull s).cdist = s.cdist := by unfold groupOutIfFull; split <;> rfl
@[simp] theorem groupOutIfFull_derr (s : State) : (groupOutIfFull s).derr = s.derr := by unfold groupOutIfFull; split <;> rfl
@[simp] theorem groupOutIfFull_eph (s : State) : (groupOutIfFull s).eph = s.eph := by unfold groupOutIfFull; split <;> rfl
@[simp] theorem groupOutIfFull_p (s : State) : (groupOutIfFull s).p = s.p := by unfold groupOutIfFull; split <;> rfl
@[simp] theorem groupOutIfFull_emode (s : State) : (groupOutIfFull s).emode = s.emode := by unfold groupOutIfFull; split <;> rfl
@[simp] theorem groupOutIfFull_eerr (s : State) : (groupOutIfFull s).eerr = s.eerr := by unfold groupOutIfFull; split <;> rfl
@[simp] theorem groupOutIfFull_idx (s : State) : (groupOutIfFull s).idx = s.idx := by unfold groupOutIfFull; split <;> rfl
@[simp] theorem groupOutIfFull_ures (s : State) : (groupOutIfFull s).ures = s.ures := by unfold groupOutIfFull; split <;> rfl
@[simp] theorem groupOutIfFull_host (s : State) : (groupOutIfFull s).host = s.host := by unfold groupOutIfFull; split <;> rfl

end Sys2Proof.Machine
end

