-- ==== Sys2Proof/Laws/Memory.lean ====
section
/-! SUPPORT. The two buffers: reads and appends, and their canonical cells (20_memory.md R50 to R54). -/

namespace Sys2Proof.Machine

/-- A read defined only inside the buffer (R53). -/
theorem outRead_isSome_iff (s : State) (i : Nat) : (s.outRead i).isSome ↔ i < s.out.length := by
  simp [State.outRead]

/-- A read defined only inside the buffer (R52). -/
theorem inRead_isSome_iff (s : State) (i : Nat) : (s.inRead i).isSome ↔ i < s.inp.length := by
  simp [State.inRead]

/-- The appended byte is read back at the old length (R54, R63). -/
@[simp] theorem outRead_outAppend_at (s : State) (b : Byte) : (s.outAppend b).outRead s.out.length = some b := by
  simp [State.outRead]

/-- An append leaves every other address alone. -/
theorem outRead_outAppend_of_ne (s : State) (b : Byte) {i : Nat} (h : i ≠ s.out.length) :
    (s.outAppend b).outRead i = s.outRead i := by
  simp only [State.outRead, State.outAppend_out, List.getElem?_append]
  split
  · rfl
  · have : s.out.length < i := by omega
    simp [List.getElem?_eq_none (Nat.le_of_lt this)]
    omega

/-- The copy's read is defined exactly where `1 ≤ d ≤ |out|` (R53). -/
theorem outReadBack_isSome_iff (s : State) (d : Nat) :
    (s.outReadBack d).isSome ↔ 1 ≤ d ∧ d ≤ s.out.length := by
  unfold State.outReadBack
  split
  · simp [outRead_isSome_iff]; omega
  · simp; omega

theorem cellsFrom_append (i : Nat) (bs cs : ByteSeq) :
    cellsFrom i (bs ++ cs) = cellsFrom i bs ++ cellsFrom (i + bs.length) cs := by
  induction bs generalizing i with
  | nil => simp [cellsFrom]
  | cons b bs ih => simp [cellsFrom, ih, Nat.add_assoc, Nat.add_comm 1]

/-- An append adds one cell, at the address after the last. -/
theorem cells_outAppend (s : State) (b : Byte) :
    cells (s.outAppend b).out = cells s.out ++ [(s.out.length, b)] := by
  simp [cells, cellsFrom_append, cellsFrom]

theorem cellsFrom_wf (i : Nat) (bs : ByteSeq) : Memory.wf (cellsFrom i bs) = true := by
  induction bs generalizing i with
  | nil => rfl
  | cons b bs ih =>
    cases bs with
    | nil => rfl
    | cons c cs =>
      have := ih (i + 1)
      simp_all [cellsFrom, Memory.wf]

/-- Every buffer is in canonical form, so every operation on a buffer keeps it. -/
theorem cells_wf (bs : ByteSeq) : Memory.wf (cells bs) = true := cellsFrom_wf 0 bs

/-- Equal cells are equal buffers: the canonical form loses nothing. -/
theorem cellsFrom_injective (i : Nat) {bs cs : ByteSeq} (h : cellsFrom i bs = cellsFrom i cs) : bs = cs := by
  induction bs generalizing i cs with
  | nil => cases cs <;> simp_all [cellsFrom]
  | cons b bs ih =>
    cases cs with
    | nil => simp [cellsFrom] at h
    | cons c cs =>
      simp only [cellsFrom, List.cons.injEq, Prod.mk.injEq, true_and] at h
      rw [h.1, ih (i + 1) h.2]

end Sys2Proof.Machine
end

