-- ==== Sys2Proof/Laws/Ops.lean ====
section
/-! SUPPORT. One lemma for each shared operation and each decoder or encoder meaning that says everything it
can do, and the inversion of `step`. -/

namespace Sys2Proof.Machine

/-- `.next` is injective. -/
theorem next_inj {s t : State} : (Host.Outcome.next s : Res) = .next t ↔ s = t := by
  constructor
  · intro h; cases h; rfl
  · intro h; rw [h]

/-- The same, the other way round. -/
theorem next_comm {s t : State} : (Host.Outcome.next s : Res) = .next t ↔ t = s := next_inj.trans eq_comm

theorem decoderIn_iff (s : State) (ph : DecPhase) :
    s.decoderIn ph = true ↔ s.blk = .busy ∧ s.op = .decompress ∧ s.dph = ph := by
  simp [State.decoderIn]

theorem encoderIn_iff (s : State) (ph : EncPhase) :
    s.encoderIn ph = true ↔ s.blk = .busy ∧ s.op = .compress ∧ s.eph = ph := by
  simp [State.encoderIn]

theorem tokenDue_iff (s : State) (k : Bool) :
    s.tokenDue k = true ↔
      s.blk = .busy ∧ s.op = .decompress ∧ s.dph = .inGroup ∧ s.nbit.toNat < 8 ∧ flagBit s.flags s.nbit.toNat = k := by
  unfold State.tokenDue State.nextKind
  by_cases h : s.nbit.toNat < 8 <;> simp [decoderIn_iff, h, and_assoc]

theorem valid_backref_iff (L D : Nat) :
    (Token.backref L D).valid = true ↔ 3 ≤ L ∧ L ≤ 18 ∧ 1 ≤ D ∧ D ≤ 4096 := by
  simp [Token.valid]

/-- `MK_MATCH` answers exactly the legal matches. -/
theorem mkMatch_eq (L D : Nat) :
    mkMatch L D = if (Token.backref L D).valid then .ok (.backref L D) else .error .outOfRange := by
  unfold mkMatch
  by_cases h : 3 ≤ L ∧ L ≤ 18 ∧ 1 ≤ D ∧ D ≤ 4096
  · rw [if_neg (by omega), if_pos ((valid_backref_iff L D).2 h)]
  · rw [if_pos (by omega), if_neg (mt (valid_backref_iff L D).1 h)]

/-- Constructing a valid token answers it. -/
theorem construct_of_valid {t : Token} (h : t.valid = true) : construct t = .ok t := by
  cases t with
  | literal b => rfl
  | backref L D => simp [construct, mkMatch_eq, h]

theorem one_le_dlen {t : Token} (h : t.valid = true) : 1 ≤ dlen t := by
  cases t with
  | literal b => simp [dlen]
  | backref L D => have := (valid_backref_iff L D).1 h; simp [dlen]; omega

/-- A command is accepted in IDLE only, with a legal length, and then it starts. -/
theorem issue_next_iff {o : Op} {m : Mode} {input : ByteSeq} {s t : State} :
    issue o m input s = .next t ↔
      s.blk = .idle ∧ lengthLegal s.cfg input.length = true ∧ t = started o m input s := by
  unfold issue
  cases hb : s.blk with
  | busy => simp
  | idle => by_cases hl : lengthLegal s.cfg input.length = true <;> simp [hl, eq_comm]

theorem returns_next_iff {r : UnitResult} {s t : State} : returns r s = .next t ↔ t = { s with ures := r } := by
  simp [returns, eq_comm]

theorem onToken_next_iff {tok : Token} {r : UnitResult} {s t : State} :
    onToken tok r s = .next t ↔ tok.valid = true ∧ t = { s with ures := r } := by
  unfold onToken
  by_cases h : tok.valid = true <;> simp [h, returns_next_iff]

theorem onChoice_next {input : ByteSeq} {p n : Nat} {c : Except EncodeError (Option Token)} {s t : State}
    (h : onChoice input p n c s = .next t) : t = { s with ures := t.ures } := by
  unfold onChoice at h
  split at h
  · split at h
    · exact (returns_next_iff.1 h) ▸ rfl
    · cases h
    · exact (returns_next_iff.1 h) ▸ rfl
  · cases h

/-- Completion, where the running unit has ended (45_host_interface.md R243). -/
theorem complete_some_iff {s t : State} :
    complete s = some t ↔
      (s.op = .decompress ∧ s.dph = .done ∧ t = finish .ok s.out s) ∨
      (s.op = .decompress ∧ s.dph = .failed ∧ t = finish (.error (.dec s.derr)) [] s) ∨
      (s.op = .compress ∧ s.eph = .done ∧ t = finish .ok s.eout s) ∨
      (s.op = .compress ∧ s.eph = .failed ∧ t = finish (.error (.enc s.eerr)) [] s) := by
  have comm : ∀ u : State, some u = some t ↔ t = u := fun u => by rw [Option.some.injEq]; exact eq_comm
  unfold complete
  cases ho : s.op with
  | decompress => cases hd : s.dph <;> simp [comm]
  | compress => cases he : s.eph <;> simp [comm]

/-- A read from outside answers exactly a written register's value (60_exceptions.md R274 d). -/
theorem readReg_ok_iff {s : State} {r : Reg} {v : RegValue} :
    s.readReg r = .ok v ↔ s.written r = true ∧ v = s.regValue r := by
  unfold State.readReg
  by_cases h : s.written r = true <;> simp [h, eq_comm]

theorem readReg_error_iff {s : State} {r : Reg} {e : Refusal} :
    s.readReg r = .error e ↔ s.written r = false ∧ e = .registerUnspecified := by
  unfold State.readReg
  by_cases h : s.written r = true <;> simp [h, eq_comm]

/-- Before the first command nothing is written (10_state.md R41). -/
theorem written_of_not_commandSeen {s : State} (h : s.commandSeen = false) (r : Reg) : s.written r = false := by
  cases r <;> simp [State.written, h]

/-- At command start all is written but the seven registers R41 leaves unspecified there. -/
theorem written_started (o : Op) (m : Mode) (input : ByteSeq) (s : State) (r : Reg) :
    (started o m input s).written r =
      !decide (r ∈ [Reg.dsize, .flags, .nbit, .crem, .cdist, .derr, .eerr]) := by
  cases r <;> rfl

/-! ### The decoder's meanings -/

theorem execHdr_next_iff {k : BitVec 24} {s t : State} :
    execHdr k s = .next t ↔ s.decoderIn .expectHeader = true ∧
      t = { s with dsize := k, ip := 4, dph := if k = 0 then .done else .expectFlagGroup } := by
  unfold execHdr
  by_cases h : s.decoderIn .expectHeader = true <;> simp [h, next_comm, -Host.Outcome.next.injEq]

theorem execFlags_next_iff {f : Byte} {s t : State} :
    execFlags f s = .next t ↔ s.decoderIn .expectFlagGroup = true ∧
      t = { s with flags := f, ip := s.ip + 1, nbit := 0, dph := .inGroup } := by
  unfold execFlags
  by_cases h : s.decoderIn .expectFlagGroup = true <;> simp [h, next_comm, -Host.Outcome.next.injEq]

theorem execLit_next_iff {b : Byte} {s t : State} :
    execLit b s = .next t ↔ s.tokenDue false = true ∧
      t = boundary (State.countToken (State.outAppend { s with ip := s.ip + 1 } b)) := by
  unfold execLit
  by_cases h : s.tokenDue false = true <;> simp [h, next_comm, -Host.Outcome.next.injEq]

theorem execMatchRef_next_iff {L D : Nat} {s t : State} :
    execMatchRef L D s = .next t ↔ (Token.backref L D).valid = true ∧ s.tokenDue true = true ∧
      ((s.out.length < D ∧ t = raise (.dec .badDistance) { s with ip := s.ip + 2 }) ∨
        (D ≤ s.out.length ∧ s.dsize.toNat < s.out.length + L ∧
          t = raise (.dec .sizeMismatch) { s with ip := s.ip + 2 }) ∨
        (D ≤ s.out.length ∧ s.out.length + L ≤ s.dsize.toNat ∧ t = startCopy L D { s with ip := s.ip + 2 })) := by
  unfold execMatchRef
  by_cases hv : (Token.backref L D).valid = true
  · by_cases hd : s.tokenDue true = true
    · by_cases h1 : s.out.length < D
      · simp [hv, hd, h1, Nat.not_le.2 h1, next_comm, -Host.Outcome.next.injEq]
      · by_cases h2 : s.dsize.toNat < s.out.length + L
        · simp [hv, hd, h1, h2, Nat.not_lt.1 h1, Nat.not_le.2 h2, next_comm, -Host.Outcome.next.injEq]
        · simp [hv, hd, h1, h2, Nat.not_lt.1 h1, Nat.not_lt.1 h2, next_comm, -Host.Outcome.next.injEq]
    · simp [hv, hd]
  · simp [hv]

theorem execCopy_next_iff {s t : State} :
    execCopy s = .next t ↔ s.decoderIn .copying = true ∧ s.crem ≠ 0 ∧ ∃ b, s.outReadBack s.cdist.toNat = some b ∧
      t = if s.crem = 1 then boundary (copyByte b s) else copyByte b s := by
  unfold execCopy
  by_cases h : s.decoderIn .copying = true ∧ s.crem ≠ 0
  · rw [if_pos (by rw [h.1, Bool.true_and]; exact decide_eq_true h.2)]
    cases hr : s.outReadBack s.cdist.toNat with
    | none => simp
    | some b => simp only [h, Option.some.injEq, true_and, ne_eq, not_false_eq_true, exists_eq_left', next_comm]
  · rw [if_neg (by rw [Bool.and_eq_true, decide_eq_true_iff]; exact h)]
    simp only [reduceCtorEq, false_iff]
    exact fun h' => h ⟨h'.1, h'.2.1⟩

/-! ### The encoder's meanings -/

theorem execEncStart_next_iff {s t : State} :
    execEncStart s = .next t ↔ s.encoderIn .start = true ∧
      ((maxSize < s.n ∧ t = raise (.enc .sizeTooLarge) s) ∨
        (s.n ≤ maxSize ∧
          t = { s with eout := headerBytes s.cfg.tag s.n, eph := if s.n = 0 then .done else .parse })) := by
  unfold execEncStart writeHeader
  by_cases h : s.encoderIn .start = true
  · by_cases hn : maxSize < s.n
    · simp [h, hn, Nat.not_le.2 hn, next_comm, -Host.Outcome.next.injEq]
    · simp [h, hn, Nat.not_lt.1 hn, next_comm, -Host.Outcome.next.injEq]
  · simp [h]

theorem execEncFlush_next_iff {s t : State} :
    execEncFlush s = .next t ↔ s.encoderIn .flush = true ∧ t = endFlush (groupOut s) := by
  unfold execEncFlush
  by_cases h : s.encoderIn .flush = true <;> simp [h, next_comm, -Host.Outcome.next.injEq]

theorem execEncParse_next_iff {s t : State} :
    execEncParse s = .next t ↔ s.encoderIn .parse = true ∧
      ((∃ e, choose s.cfg s.emode s.idx s.inp s.p s.n = .error e ∧ t = raise (.enc e) s) ∨
        (∃ c e, choose s.cfg s.emode s.idx s.inp s.p s.n = .ok (some c) ∧ construct c = .error e ∧
          t = raise (.enc e) s) ∨
        (∃ c tok, choose s.cfg s.emode s.idx s.inp s.p s.n = .ok (some c) ∧ construct c = .ok tok ∧
          t = endOfInput (groupOutIfFull (pushToken tok s)))) := by
  unfold execEncParse
  by_cases h : s.encoderIn .parse = true
  · cases hc : choose s.cfg s.emode s.idx s.inp s.p s.n with
    | error e => simp [h, next_comm, -Host.Outcome.next.injEq]
    | ok o =>
      cases o with
      | none => simp [h]
      | some c =>
        cases hk : construct c with
        | error e => simp [h, next_comm, hk, -Host.Outcome.next.injEq]
        | ok tok => simp [h, next_comm, hk, -Host.Outcome.next.injEq]
  · simp [h]

/-! ### The step -/

/-- Everything a step that answers a state can have done. -/
theorem step_next_iff {s t : State} :
    step s = .next t ↔ nextAction s = .settle t ∨ ∃ i s', nextAction s = .run i s' ∧ exec i s' = .next t := by
  unfold step
  cases h : nextAction s with
  | run i s' => simp
  | settle s' => simp
  | refuse r => simp

/-- In BUSY with the host quiet, the unit steps. -/
theorem nextAction_busy {s : State} (hb : s.blk = .busy) (hh : s.host = []) : nextAction s = unitAction s := by
  simp [nextAction, hb, busyAction, hh]

/-- In IDLE with no host action to come, the core waits. -/
theorem nextAction_idle {s : State} (hb : s.blk = .idle) (hh : s.host = []) : nextAction s = .settle s := by
  simp [nextAction, hb, idleAction, hh]

/-- A fetch runs the decoded element or raises the rejection's error. -/
theorem fetchElement_eq (sl : Slot) (s : State) :
    (∃ i rest, decode s.cfg.tag sl (s.fetchBytes sl) = .ok (i, rest) ∧ fetchElement sl s = .run i s) ∨
      (∃ r, decode s.cfg.tag sl (s.fetchBytes sl) = .error r ∧
        fetchElement sl s = .settle (raise (.dec r.toError) s)) := by
  unfold fetchElement
  cases h : decode s.cfg.tag sl (s.fetchBytes sl) with
  | ok x => exact .inl ⟨x.1, x.2, rfl, rfl⟩
  | error r => exact .inr ⟨r, rfl, rfl⟩

/-! ### The refusal of a read from outside -/

/-- No instruction stops with `registerUnspecified`, whatever the registers hold: it answers a read from outside
alone (60_exceptions.md R274 d). -/
theorem exec_ne_registerUnspecified (i : Instr) (s : State) : exec i s ≠ .refused .registerUnspecified := by
  intro h
  cases i <;>
    simp only [exec, execHdr, execFlags, execLit, execMatchRef, execCopy, execMkLit, execMkMatch, execKind, execPack,
      execUnpackLit, execUnpackMatch, execDlen, execWriteHeader, execReadHeader, execFlagByte, execWriteTokens,
      execReadTokens, execFindMatch, execChooseGreedy, execChooseLazy, execEncStart, execEncParse, execEncFlush,
      execCompress, execDecompress, issue, onToken, onChoice, returns] at h <;>
    (repeat' split at h) <;> simp_all

/-- No action refuses so either. -/
theorem nextAction_ne_registerUnspecified (s : State) : nextAction s ≠ .refuse .registerUnspecified := by
  intro h
  simp only [nextAction, idleAction, busyAction, issueAction, unitAction, decoderAction, encoderAction, completeAction,
    fetchElement] at h
  (repeat' split at h) <;> simp_all

/-- No step stops so: a register that nothing has written is no reason for the machine to stop. -/
theorem step_ne_registerUnspecified (s : State) : step s ≠ .refused .registerUnspecified := by
  unfold step
  cases h : nextAction s with
  | run i s' => exact exec_ne_registerUnspecified i s'
  | settle s' => simp
  | refuse r =>
    intro hr
    cases hr
    exact nextAction_ne_registerUnspecified s h

end Sys2Proof.Machine
end

