-- ==== Sys2Proof/Laws/PerInstr.lean ====
section
/-! SUPPORT. A law for each instruction as syntax: the length of its encoding (30_encoding.md R81, R88). -/

namespace Sys2Proof.Laws.EncodingLength

/-- The encoding fills its slot exactly. -/
def Statement (i : Instr) : Prop :=
  ∀ (tag : Byte) (sl : Slot) (bs : ByteSeq), encode tag i = some (sl, bs) → bs.length = sl.size

theorem hdr (size : BitVec 24) : Statement (.hdr size) := by
  intro tag sl bs h; simp [encode] at h; obtain ⟨rfl, rfl⟩ := h; rfl
theorem flags (f : Byte) : Statement (.flags f) := by
  intro tag sl bs h; simp [encode] at h; obtain ⟨rfl, rfl⟩ := h; rfl
theorem lit (b : Byte) : Statement (.lit b) := by
  intro tag sl bs h; simp [encode] at h; obtain ⟨rfl, rfl⟩ := h; rfl
theorem matchRef (L D : Nat) : Statement (.matchRef L D) := by
  intro tag sl bs h; simp [encode] at h; obtain ⟨rfl, rfl⟩ := h; rfl

/-- A row without an encoding. -/
theorem of_none {i : Instr} (h : ∀ tag, encode tag i = none) : Statement i := by
  intro tag sl bs h'; simp [h tag] at h'

theorem copy : Statement (.copy) := of_none fun _ => rfl
theorem mkLit (b : Byte) : Statement (.mkLit b) := of_none fun _ => rfl
theorem mkMatch (L D : Nat) : Statement (.mkMatch L D) := of_none fun _ => rfl
theorem kind (t : Token) : Statement (.kind t) := of_none fun _ => rfl
theorem pack (t : Token) : Statement (.pack t) := of_none fun _ => rfl
theorem unpackLit (b0 : Byte) : Statement (.unpackLit b0) := of_none fun _ => rfl
theorem unpackMatch (b0 b1 : Byte) : Statement (.unpackMatch b0 b1) := of_none fun _ => rfl
theorem dlen (t : Token) : Statement (.dlen t) := of_none fun _ => rfl
theorem writeHeader (size : Nat) : Statement (.writeHeader size) := of_none fun _ => rfl
theorem readHeader (bytes : ByteSeq) : Statement (.readHeader bytes) := of_none fun _ => rfl
theorem flagByte (ts : List Token) : Statement (.flagByte ts) := of_none fun _ => rfl
theorem writeTokens (ts : List Token) : Statement (.writeTokens ts) := of_none fun _ => rfl
theorem readTokens (bytes : ByteSeq) (expected : BitVec 24) : Statement (.readTokens bytes expected) := of_none fun _ => rfl
theorem findMatch (input : ByteSeq) (p n : Nat) : Statement (.findMatch input p n) := of_none fun _ => rfl
theorem chooseGreedy (input : ByteSeq) (p n : Nat) : Statement (.chooseGreedy input p n) := of_none fun _ => rfl
theorem chooseLazy (input : ByteSeq) (p n : Nat) : Statement (.chooseLazy input p n) := of_none fun _ => rfl
theorem encStart : Statement (.encStart) := of_none fun _ => rfl
theorem encParse : Statement (.encParse) := of_none fun _ => rfl
theorem encFlush : Statement (.encFlush) := of_none fun _ => rfl
theorem compress (mode : Mode) (input : ByteSeq) : Statement (.compress mode input) := of_none fun _ => rfl
theorem decompress (mode : Mode) (input : ByteSeq) : Statement (.decompress mode input) := of_none fun _ => rfl

end Sys2Proof.Laws.EncodingLength
end

