-- ==== Sys2Proof/Machine/Assembler.lean ====
section
/-! DEFINITION. The token-stream assembly of 30_encoding.md R90: notation for streams, not a part of the core. -/

namespace Sys2Proof.Machine

/-- A line of the assembly (R90). -/
inductive AsmLine where
  | hdr (n : Nat)
  | lit (b : Byte)
  | matchRef (L D : Nat)
  | lits (bs : ByteSeq)
  | raw (bs : ByteSeq)
  deriving DecidableEq, Repr

/-- The lines after the first, with the tokens of the current run: RAW ends the current group, and HDR may
stand first only; `none` where a line is not legal (R90). -/
def assembleBody : List AsmLine → List Token → Option ByteSeq
  | [], run => some (writeTokens run)
  | .lit b :: rest, run => assembleBody rest (run ++ [.literal b])
  | .lits bs :: rest, run => assembleBody rest (run ++ bs.map Token.literal)
  | .matchRef L D :: rest, run =>
    if (Token.backref L D).valid then assembleBody rest (run ++ [.backref L D]) else none
  | .raw bs :: rest, run =>
    match assembleBody rest [] with
    | some tail => some (writeTokens run ++ bs ++ tail)
    | none => none
  | .hdr _ :: _, _ => none

/-- A program of the assembly (R90). -/
def assembleLines (tag : Byte) : List AsmLine → Option ByteSeq
  | .hdr n :: rest =>
    match writeHeader tag n, assembleBody rest [] with
    | .ok h, some body => some (h ++ body)
    | _, _ => none
  | _ => none

end Sys2Proof.Machine
end

