-- ==== Sys2Proof/Tests/Slice0.lean ====
section
/-! SUPPORT. Tests: well-formedness, words written out from the encodings, one step or unit operation each with
the result spec/95_test_vectors.md gives, and a witness for the hypotheses of each statement. -/

namespace Sys2Proof.Tests

open Sys2Proof.Machine

/-! ### Well-formedness: each check refuses an ill-formed term -/

theorem test_wf_match_too_short : (Instr.matchRef 2 1).wf = false := by decide
theorem test_wf_match_too_long : (Instr.matchRef 19 1).wf = false := by decide
theorem test_wf_match_distance_zero : (Instr.matchRef 3 0).wf = false := by decide
theorem test_wf_match_distance_too_far : (Instr.matchRef 3 4097).wf = false := by decide
theorem test_wf_match_corners : (Instr.matchRef 3 1).wf && (Instr.matchRef 18 4096).wf = true := by decide
theorem test_wf_kind_invalid_token : (Instr.kind (.backref 2 1)).wf = false := by decide
theorem test_wf_pack_invalid_token : (Instr.pack (.backref 3 0)).wf = false := by decide
theorem test_wf_dlen_invalid_token : (Instr.dlen (.backref 0 0)).wf = false := by decide
theorem test_wf_flagByte_empty : (Instr.flagByte []).wf = false := by decide
theorem test_wf_flagByte_nine : (Instr.flagByte (List.replicate 9 (.literal 0))).wf = false := by decide
theorem test_wf_flagByte_invalid_token : (Instr.flagByte [.backref 19 1]).wf = false := by decide
theorem test_wf_writeTokens_invalid_token : (Instr.writeTokens [.literal 0, .backref 3 4097]).wf = false := by decide
theorem test_wf_findMatch_past_end : (Instr.findMatch [1, 2] 3 2).wf = false := by decide
theorem test_wf_findMatch_wrong_length : (Instr.findMatch [1, 2] 0 3).wf = false := by decide
theorem test_wf_chooseGreedy_at_end : (Instr.chooseGreedy [1] 1 1).wf = false := by decide
theorem test_wf_chooseLazy_at_end : (Instr.chooseLazy [1] 1 1).wf = false := by decide

/-! ### Words written out bit by bit (30_encoding.md R71, R75, R77, R78; 10_state.md R21) -/

/-- Size 5000 = 0x001388 (95_test_vectors.md S2). -/
theorem test_decode_hdr :
    decode 0x10 .header [0b00010000, 0b10001000, 0b00010011, 0b00000000] = .ok (.hdr 5000, []) := by rfl
theorem test_decode_hdr_wrong_tag : decode 0x10 .header [0x11, 0, 0, 0] = .error .badMagic := by rfl
theorem test_decode_hdr_short_wrong_tag : decode 0x10 .header [0x00] = .error .badMagic := by rfl
theorem test_decode_hdr_short : decode 0x10 .header [0x10, 0x05, 0x00] = .error .truncated := by rfl
theorem test_decode_flags : decode 0x10 .flagByte [0b01000000] = .ok (.flags 0x40, []) := by rfl
theorem test_decode_lit : decode 0x10 (.token false) [0b10101011, 0xFF] = .ok (.lit 0xAB, [0xFF]) := by rfl
/-- llll = 1000 (11), distance code 0x008 (9): `80 08` of P1. -/
theorem test_decode_match : decode 0x10 (.token true) [0b10000000, 0b00001000] = .ok (.matchRef 11 9, []) := by rfl
/-- The high distance bits stand in the first byte: `AB 70` is MATCH 13, 2929 (V16). -/
theorem test_decode_match_high_bits : decode 0x10 (.token true) [0xAB, 0x70] = .ok (.matchRef 13 2929, []) := by rfl
theorem test_decode_match_one_byte : decode 0x10 (.token true) [0x00] = .error .truncated := by rfl
theorem test_decode_compress :
    decodeCommand Config.hardware ⟨0, some 0, [1], false⟩ = .ok (.compress .greedy [1]) := by rfl
theorem test_decode_decompress :
    decodeCommand Config.hardware ⟨1, some 1, [1], false⟩ = .ok (.decompress .lazy [1]) := by rfl
/-- An unset mode is LAZY (10_state.md R21). -/
theorem test_decode_default_mode :
    decodeCommand Config.hardware ⟨0, none, [], false⟩ = .ok (.compress .lazy []) := by rfl
theorem test_decode_unknown_op : decodeCommand Config.hardware ⟨2, some 0, [], false⟩ = .error .unknownOp := by rfl
theorem test_decode_unknown_mode : decodeCommand Config.hardware ⟨0, some 2, [], false⟩ = .error .unknownMode := by rfl

/-! ### Table words -/

theorem test_tableWord_lit : decodeTableWord 8 0x40 = some (.lit 0x40) := by rfl
theorem test_tableWord_match : decodeTableWord 16 0x0071 = some (.matchRef 10 257) := by rfl
theorem test_tableWord_hdr : decodeTableWord 32 0x00138810 = some (.hdr 5000) := by rfl
theorem test_fetchWord_lit : step (State.reset.withFetchWord 8 0x40) = exec (.lit 0x40) (State.reset.withFetchWord 8 0x40) := by rfl
theorem test_fetchWord_match :
    step (State.reset.withFetchWord 16 0x0071) = exec (.matchRef 10 257) (State.reset.withFetchWord 16 0x0071) := by rfl

/-! ### Helpers -/

/-- The next state, where there is one. -/
def nextOf : Res → Option State
  | .next t => some t
  | _ => none

/-- The result of a unit operation on the reset state. -/
def unitResult (i : Instr) : Option UnitResult := (nextOf (exec i State.reset)).map State.ures

/-- A running DECOMPRESS. -/
def decoding (ph : DecPhase) (input : ByteSeq) (ip : Nat) : State :=
  { State.reset with blk := .busy, op := .decompress, dph := ph, inp := input, ip := ip, dsize := 11 }

/-- A running COMPRESS. -/
def encoding (ph : EncPhase) (input : ByteSeq) (p : Nat) : State :=
  { State.reset with blk := .busy, op := .compress, eph := ph, inp := input, p := p, idx := List.range p }

/-- The stream of 95_test_vectors.md S4. -/
def s4 : ByteSeq := [0x10, 0x0B, 0x00, 0x00, 0x40, 0xAB, 0x70, 0x00]

/-- S4 before its literal. -/
def beforeLit : State := { decoding .inGroup s4 5 with flags := 0x40 }

/-- S4 before its match. -/
def beforeMatch : State := { decoding .inGroup s4 6 with flags := 0x40, nbit := 1, out := [0xAB] }

/-- S4 before the last byte of its copy. -/
def beforeLastCopy : State :=
  { decoding .copying s4 8 with flags := 0x40, nbit := 2, crem := 1, cdist := 1, out := List.replicate 10 0xAB }

/-- "aaabaaaaa" (95_test_vectors.md 2.5). -/
def aaab : ByteSeq := [0x61, 0x61, 0x61, 0x62, 0x61, 0x61, 0x61, 0x61, 0x61]

/-! ### The token codec (95_test_vectors.md 2.1) -/

theorem test_mkLit : unitResult (.mkLit 0xFF) = some (.token (.literal 0xFF)) := by decide
theorem test_mkMatch_corner : unitResult (.mkMatch 18 4096) = some (.token (.backref 18 4096)) := by decide
theorem test_mkMatch_too_far : unitResult (.mkMatch 3 4097) = some (.err (.enc .outOfRange)) := by decide
theorem test_kind : unitResult (.kind (.backref 3 1)) = some (.flagBit true) := by decide
theorem test_pack_257 : unitResult (.pack (.backref 3 257)) = some (.bytes [0x01, 0x00]) := by decide
theorem test_pack_256 : unitResult (.pack (.backref 3 256)) = some (.bytes [0x00, 0xFF]) := by decide
theorem test_unpackLit : unitResult (.unpackLit 0x41) = some (.token (.literal 0x41)) := by decide
theorem test_unpackMatch : unitResult (.unpackMatch 0x0F 0xFF) = some (.token (.backref 3 4096)) := by decide
theorem test_dlen : unitResult (.dlen (.backref 18 4096)) = some (.length 18) := by decide

/-! ### The framer (2.2) -/

theorem test_writeHeader : unitResult (.writeHeader 5000) = some (.bytes [0x10, 0x88, 0x13, 0x00]) := by decide
theorem test_writeHeader_too_large : unitResult (.writeHeader 16777216) = some (.err (.enc .sizeTooLarge)) := by decide
theorem test_readHeader_largest : unitResult (.readHeader [0x10, 0xFF, 0xFF, 0xFF]) = some (.size 16777215) := by decide
theorem test_readHeader_tag_first : unitResult (.readHeader [0x00]) = some (.err (.dec .badMagic)) := by decide
theorem test_flagByte : unitResult (.flagByte [.literal 0, .backref 3 1]) = some (.byte 0x40) := by decide
theorem test_flagByte_seven : unitResult (.flagByte (List.replicate 7 (.backref 3 1))) = some (.byte 0xFE) := by decide
theorem test_writeTokens :
    unitResult (.writeTokens [.literal 0xAB, .backref 10 1]) = some (.bytes [0x40, 0xAB, 0x70, 0x00]) := by decide
theorem test_writeTokens_nine :
    unitResult (.writeTokens (List.replicate 9 (.literal 0x41))) =
      some (.bytes [0, 0x41, 0x41, 0x41, 0x41, 0x41, 0x41, 0x41, 0x41, 0, 0x41]) := by decide
theorem test_readTokens : unitResult (.readTokens s4 11) = some (.parsed [.literal 0xAB, .backref 10 1] 11 8) := by decide
theorem test_readTokens_overrun :
    unitResult (.readTokens [0x10, 5, 0, 0, 0x40, 0x41, 0xF0, 0x00] 5) =
      some (.parsed [.literal 0x41, .backref 18 1] 19 8) := by decide

/-! ### The match finder and the policies (2.4, 2.5) -/

theorem test_findMatch_longest : unitResult (.findMatch aaab 5 9) = some (.token (.backref 4 1)) := by decide
theorem test_findMatch_tie_nearest : unitResult (.findMatch aaab 6 9) = some (.token (.backref 3 1)) := by decide
theorem test_chooseGreedy : unitResult (.chooseGreedy aaab 4 9) = some (.token (.backref 3 4)) := by decide
theorem test_chooseLazy_defers : unitResult (.chooseLazy aaab 4 9) = some (.token (.literal 0x61)) := by decide
theorem test_chooseLazy_commits : unitResult (.chooseLazy aaab 5 9) = some (.token (.backref 4 1)) := by decide

/-! ### Decoder steps (2.3, S3, S4) -/

theorem test_hdr : (nextOf (step (decoding .expectHeader s4 0))).map (fun t => (t.dsize, t.ip, t.dph)) =
    some (11, 4, .expectFlagGroup) := by decide
theorem test_hdr_size_zero :
    (nextOf (step (decoding .expectHeader [0x10, 0, 0, 0, 0xFF] 0))).map (fun t => (t.ip, t.dph)) =
      some (4, .done) := by decide
theorem test_flags : (nextOf (step (decoding .expectFlagGroup s4 4))).map (fun t => (t.flags, t.nbit, t.ip, t.dph)) =
    some (0x40, 0, 5, .inGroup) := by decide
theorem test_lit : (nextOf (step beforeLit)).map (fun t => (t.out, t.nbit, t.ip, t.dph)) =
    some ([0xAB], 1, 6, .inGroup) := by decide
theorem test_match : (nextOf (step beforeMatch)).map (fun t => (t.crem, t.cdist, t.nbit, t.ip, t.dph)) =
    some (10, 1, 2, 8, .copying) := by decide
/-- P4: an overrun is rejected before any byte is copied. -/
theorem test_match_overrun :
    (nextOf (step { beforeMatch with dsize := 5 })).map (fun t => (t.out, t.ip, t.derr, t.dph)) =
      some ([0xAB], 8, .sizeMismatch, .failed) := by decide
theorem test_copy_last : (nextOf (step beforeLastCopy)).map (fun t => (t.out, t.crem, t.dph)) =
    some (List.replicate 11 0xAB, 0, .done) := by decide
/-- P1: at distance 2 the byte two behind the cursor is read. -/
theorem test_copy_distance :
    (nextOf (step { beforeLastCopy with crem := 6, cdist := 2, out := [0x61, 0x62] })).map (fun t => (t.out, t.crem, t.dph)) =
      some ([0x61, 0x62, 0x61], 5, .copying) := by decide

/-! ### Encoder steps (2.5) -/

theorem test_encStart : (nextOf (step (encoding .start aaab 0))).map (fun t => (t.eout, t.eph)) =
    some ([0x10, 9, 0, 0], .parse) := by decide
theorem test_encStart_empty : (nextOf (step (encoding .start [] 0))).map (fun t => (t.eout, t.eph)) =
    some ([0x10, 0, 0, 0], .done) := by decide
/-- "AAAA" at p = 1 (44_lz77_encoder_parser.md R215). -/
theorem test_encParse :
    (nextOf (step { encoding .parse [0x41, 0x41, 0x41, 0x41] 1 with grp := [.literal 0x41] })).map
      (fun t => (t.grp, t.p, t.eph)) = some ([.literal 0x41, .backref 3 1], 4, .flush) := by decide
/-- The 8th token's step writes the group and ends the parse ("ABCDEFGH", 2.5). -/
theorem test_encParse_full_group :
    (nextOf (step { encoding .parse [1, 2, 3, 4, 5, 6, 7, 8] 7 with grp := [1, 2, 3, 4, 5, 6, 7].map Token.literal })).map
      (fun t => (t.grp, t.eout, t.eph)) = some ([], [0, 1, 2, 3, 4, 5, 6, 7, 8], .done) := by decide
theorem test_encFlush :
    (nextOf (step { encoding .flush [0x41, 0x41, 0x41, 0x41] 4 with grp := [.literal 0x41, .backref 3 1] })).map
      (fun t => (t.eout, t.grp, t.eph)) = some ([0x40, 0x41, 0, 0], [], .done) := by decide

/-! ### Host commands (2.6) -/

theorem test_compress : (nextOf (exec (.compress .greedy aaab) State.reset)).map (fun t => (t.blk, t.op, t.inp, t.emode)) =
    some (.busy, .compress, aaab, .greedy) := by decide
theorem test_decompress : (nextOf (exec (.decompress .lazy s4) State.reset)).map (fun t => (t.blk, t.op, t.inp, t.dph)) =
    some (.busy, .decompress, s4, .expectHeader) := by decide
theorem test_complete_error :
    (nextOf (step { decoding .failed [0x11, 0, 0, 0] 0 with derr := .badMagic })).map
      (fun t => (t.blk, t.status.code, t.readOutput.toOption)) = some (.idle, 3, none) := by decide
theorem test_complete_ok :
    (nextOf (step { decoding .done s4 8 with out := List.replicate 11 0xAB })).map
      (fun t => (t.blk, t.status.code, t.readOutput.toOption)) = some (.idle, 0, some (List.replicate 11 0xAB)) := by decide

/-! ### Reads of registers (10_state.md R26, R41; 60_exceptions.md R274 d) -/

/-- `dsize` is read only after the header step, and still once the command has ended. -/
theorem test_readReg_dsize :
    (decoding .expectHeader s4 0).readReg .dsize = .error .registerUnspecified ∧
      (nextOf (step (decoding .expectHeader s4 0))).map (fun t => t.readReg .dsize) = some (.ok (.nat 11)) ∧
      (nextOf (step { decoding .done s4 8 with dsize := 11 })).map (fun t => t.readReg .dsize) = some (.ok (.nat 11)) := by
  decide
/-- The first match writes `cdist`; a command start leaves it unspecified. -/
theorem test_readReg_cdist :
    (nextOf (step beforeMatch)).map (fun t => t.readReg .cdist) = some (.ok (.nat 1)) ∧
      (nextOf (exec (.decompress .lazy s4) { beforeLastCopy with blk := .idle })).map (fun t => t.readReg .cdist) =
        some (.error .registerUnspecified) := by decide

/-! ### Assembly (95_test_vectors.md P1, P2; 30_encoding.md R90) -/

theorem test_assemble_P1 :
    assembleLines 0x10 [.hdr 20, .lit 0x61, .lit 0x62, .matchRef 6 2, .lit 0x63, .matchRef 11 9] =
      some [0x10, 0x14, 0, 0, 0x28, 0x61, 0x62, 0x30, 0x01, 0x63, 0x80, 0x08] := by decide
theorem test_assemble_P2_tail :
    assembleLines 0x10 [.hdr 6, .lits [0x10], .matchRef 5 1, .raw [0xDE, 0xAD]] =
      some [0x10, 6, 0, 0, 0x40, 0x10, 0x20, 0x00, 0xDE, 0xAD] := by decide

end Sys2Proof.Tests
end

