-- ==== Sys2Proof/Tests/Witnesses.lean ====
section
/-! SUPPORT. For each statement with hypotheses, a concrete state and operands that meet all of them together;
for a statement of several clauses, one for each clause at a boundary. -/

namespace Sys2Proof.Tests

open Sys2Proof.Machine

/-! ### Encoding and unit operations -/

theorem witness_DecodeOfEncodeIsTheInstruction :
    (Instr.matchRef 18 4096).wf = true ∧ encode 0x10 (.matchRef 18 4096) = some (.token true, [0xFF, 0xFF]) ∧
      (Instr.hdr 16777215).wf = true ∧
      encode 0x10 (.hdr 16777215) = some (.header, [0x10, 0xFF, 0xFF, 0xFF]) := by decide
theorem witness_EncodeOfDecodeIsTheBytes :
    decode 0x10 (.token true) [0xFF, 0xFF, 0x01] = .ok (.matchRef 18 4096, [0x01]) ∧
      decode 0x10 (.token false) [0x00] = .ok (.lit 0x00, []) := ⟨rfl, rfl⟩
theorem witness_DescriptorCodesNameTheCommands :
    encodeCommand (.decompress .lazy [1]) = some ⟨1, some 1, [1], false⟩ ∧
      decodeCommand Config.hardware ⟨1, some 1, [1], true⟩ = .ok (.decompress .lazy [1]) := ⟨rfl, rfl⟩
theorem witness_TokenConstructorsAnswerOrOutOfRange :
    (3 ≤ 18 ∧ 18 ≤ 18 ∧ 1 ≤ 4096 ∧ 4096 ≤ 4096) ∧ ¬ (3 ≤ 2 ∧ 2 ≤ 18 ∧ 1 ≤ 1 ∧ 1 ≤ 4096) := by decide
theorem witness_KindAndDescribedLength : ∃ L D : Nat, 3 ≤ L ∧ L ≤ 18 ∧ 1 ≤ D ∧ D ≤ 4096 := ⟨3, 4096, by decide⟩
theorem witness_UnpackOfPackIsTheToken : ∃ L D : Nat, 3 ≤ L ∧ L ≤ 18 ∧ 1 ≤ D ∧ D ≤ 4096 := ⟨18, 1, by decide⟩
theorem witness_WriteHeaderAnswersFourBytesOrSizeTooLarge :
    (16777215 ≤ 2 ^ 24 - 1) ∧ 2 ^ 24 - 1 < 16777216 := by decide
theorem witness_ReadHeaderChecksTagThenLength :
    (([0x11] : ByteSeq) = 0x11 :: [] ∧ (0x11 : Byte) ≠ State.reset.cfg.tag) ∧
    ((∀ b rest, ([0x10, 5, 0] : ByteSeq) = b :: rest → b = State.reset.cfg.tag) ∧ ([0x10, 5, 0] : ByteSeq).length < 4) ∧
    ([0x10, 11, 0, 0] : ByteSeq) = State.reset.cfg.tag :: 11 :: 0 :: 0 :: [] :=
  ⟨by decide, ⟨fun _ _ h => by cases h; rfl, by decide⟩, rfl⟩
theorem witness_FlagByteClassifiesMostSignificantFirst :
    ∃ ts : List Token, 1 ≤ ts.length ∧ ts.length ≤ 8 ∧ ts.all Token.valid = true :=
  ⟨List.replicate 8 (.backref 3 1), by decide⟩
theorem witness_WriteTokensWritesGroupsOfEight :
    (List.replicate 9 (Token.backref 18 4096)).all Token.valid = true ∧
      List.replicate 9 (Token.backref 18 4096) ≠ [] ∧ ([] : List Token).all Token.valid = true := by decide
theorem witness_ReadTokensOfAssembledStream :
    [Token.literal 0xAB, .backref 10 1].all Token.valid = true ∧
      described [Token.literal 0xAB, .backref 10 1] = (11 : BitVec 24).toNat := by decide
theorem witness_ReadTokensAnswersOrTruncated : (11 : BitVec 24) ≠ 0 := by decide

/-! ### Match finder and policies -/

theorem witness_ExhaustiveSearchFindsLongestThenNearest :
    State.reset.cfg.matchSearch = .exhaustive ∧ State.reset.cfg.wf ∧ aaab.length ≤ aaab.length ∧ 0 ≤ aaab.length := by
  decide
/-- The distance of the inner clauses at its bounds, with a length that is the greatest there. -/
theorem witness_ExhaustiveSearch_distance :
    State.reset.cfg.encMinDist ≤ 1 ∧ 1 ≤ min 4096 5 ∧ isMatchLength aaab 5 1 (min 18 (aaab.length - 5)) 4 :=
  ⟨by decide, by decide, by decide, by decide, fun h => absurd h (by decide)⟩
theorem witness_EverySearchIsSound :
    Config.wf { Config.hardware with matchSearch := .anySound } ∧ 5 ≤ aaab.length := by decide
theorem witness_GreedyTakesTheMatchOrALiteral : State.reset.cfg.wf ∧ aaab[8]? = some 0x61 := by decide
theorem witness_LazyDefersOnlyToALongerMatch : State.reset.cfg.wf ∧ aaab[0]? = some 0x61 := by decide
theorem witness_UnitOperationsWriteOnlyTheirResult :
    isUnitOperation (.findMatch aaab 9 9) = true ∧ (Instr.findMatch aaab 9 9).wf = true ∧ State.reset.cfg.wf ∧
      exec (.mkLit 1) State.reset = .next { State.reset with ures := .token (.literal 1) } :=
  ⟨rfl, by decide, by decide, rfl⟩

/-! ### Decoder -/

/-- A running DECOMPRESS whose host is quiet. -/
def runsDecoder (s : State) (ph : DecPhase) : Prop :=
  s.blk = .busy ∧ s.op = .decompress ∧ s.dph = ph ∧ s.host = []

theorem witness_HeaderStep :
    runsDecoder (decoding .expectHeader s4 0) .expectHeader ∧ readHeader 0x10 s4 = .ok 11 ∧
      runsDecoder (decoding .expectHeader [] 0) .expectHeader ∧ readHeader 0x10 [] = .error .truncated :=
  ⟨⟨rfl, rfl, rfl, rfl⟩, rfl, ⟨rfl, rfl, rfl, rfl⟩, rfl⟩
theorem witness_FlagByteStep :
    runsDecoder (decoding .expectFlagGroup s4 4) .expectFlagGroup ∧ s4[4]? = some 0x40 ∧
      runsDecoder (decoding .expectFlagGroup s4 8) .expectFlagGroup ∧ s4.length ≤ 8 :=
  ⟨⟨rfl, rfl, rfl, rfl⟩, rfl, ⟨rfl, rfl, rfl, rfl⟩, by decide⟩
theorem witness_LiteralStep :
    runsDecoder beforeLit .inGroup ∧ beforeLit.nbit.toNat < 8 ∧
      beforeLit.flags.getLsbD (7 - beforeLit.nbit.toNat) = false ∧ beforeLit.inp[beforeLit.ip]? = some 0xAB ∧
      beforeLit.inp.length ≤ { beforeLit with ip := 8 }.ip :=
  ⟨⟨rfl, rfl, rfl, rfl⟩, by decide, by decide, rfl, by decide⟩
theorem witness_MatchStep_copy :
    runsDecoder beforeMatch .inGroup ∧ beforeMatch.nbit.toNat < 8 ∧
      beforeMatch.flags.getLsbD (7 - beforeMatch.nbit.toNat) = true ∧ 1 ≤ beforeMatch.out.length ∧
      beforeMatch.out.length + 10 ≤ beforeMatch.dsize.toNat :=
  ⟨⟨rfl, rfl, rfl, rfl⟩, by decide, by decide, by decide, by decide⟩
theorem witness_MatchStep_errors :
    beforeMatch.out.length < 2 ∧ (1 ≤ beforeMatch.out.length ∧ beforeMatch.dsize.toNat < beforeMatch.out.length + 11) ∧
      beforeMatch.inp.length ≤ { beforeMatch with ip := 7 }.ip + 1 ∧
      beforeMatch.inp[beforeMatch.ip]? = some 0x70 ∧ beforeMatch.inp[beforeMatch.ip + 1]? = some 0x00 := by decide
theorem witness_CopyStep :
    runsDecoder beforeLastCopy .copying ∧ 1 ≤ beforeLastCopy.crem.toNat ∧ 1 ≤ beforeLastCopy.cdist.toNat ∧
      beforeLastCopy.cdist.toNat ≤ beforeLastCopy.out.length ∧
      2 ≤ { beforeLastCopy with crem := 2 }.crem.toNat :=
  ⟨⟨rfl, rfl, rfl, rfl⟩, by decide, by decide, by decide, by decide⟩
theorem witness_CopyFromNowhereFaults :
    runsDecoder { beforeLastCopy with cdist := 0 } .copying ∧ beforeLastCopy.crem ≠ 0 ∧
      { beforeLastCopy with cdist := 0 }.cdist = 0 ∧
      beforeLastCopy.out.length < { beforeLastCopy with cdist := 11 }.cdist.toNat :=
  ⟨⟨rfl, rfl, rfl, rfl⟩, by decide, by decide, by decide⟩
theorem witness_WholeCopyIsThePeriodicContinuation :
    runsDecoder beforeLastCopy .copying ∧ beforeLastCopy.crem.toNat = 1 ∧ beforeLastCopy.cdist.toNat = 1 ∧
      1 ≤ beforeLastCopy.out.length ∧
      beforeLastCopy.out = (List.replicate 11 (0xAB : Byte)).take beforeLastCopy.out.length ∧
      beforeLastCopy.out.length + 1 ≤ (List.replicate 11 (0xAB : Byte)).length ∧
      ∀ j, j < 1 → (List.replicate 11 (0xAB : Byte))[10 + j]? = (List.replicate 11 (0xAB : Byte))[10 + j - 1]? :=
  ⟨⟨rfl, rfl, rfl, rfl⟩, by decide, by decide, by decide, by decide, by decide, by decide⟩
theorem witness_StepRunsTheDecodedElement :
    (runsDecoder (decoding .expectHeader s4 0) .expectHeader ∧ decode 0x10 .header s4 = .ok (.hdr 11, s4.drop 4)) ∧
      (runsDecoder beforeMatch .inGroup ∧ beforeMatch.nbit.toNat < 8 ∧
        decode 0x10 (.token (beforeMatch.flags.getLsbD (7 - beforeMatch.nbit.toNat))) (beforeMatch.inp.drop beforeMatch.ip) =
          .ok (.matchRef 10 1, [])) ∧
      runsDecoder (decoding .expectFlagGroup s4 8) .expectFlagGroup ∧ decode 0x10 .flagByte (s4.drop 8) = .error .truncated :=
  ⟨⟨⟨rfl, rfl, rfl, rfl⟩, rfl⟩, ⟨⟨rfl, rfl, rfl, rfl⟩, by decide, rfl⟩, ⟨rfl, rfl, rfl, rfl⟩, rfl⟩
theorem witness_StepRunsThePhaseSelectedStep :
    runsDecoder beforeLastCopy .copying ∧ (encoding .start aaab 0).eph = .start ∧ (encoding .parse aaab 8).eph = .parse ∧
      (encoding .flush aaab 9).eph = .flush ∧ (encoding .flush aaab 9).blk = .busy ∧
      (encoding .flush aaab 9).op = .compress ∧ (encoding .flush aaab 9).host = [] :=
  ⟨⟨rfl, rfl, rfl, rfl⟩, rfl, rfl, rfl, rfl, rfl, rfl⟩
theorem witness_DecoderStepsFrame :
    (∃ t, exec (.hdr 11) (decoding .expectHeader s4 0) = .next t) ∧
      (∃ t, exec (.flags 0x40) (decoding .expectFlagGroup s4 4) = .next t) ∧
      (∃ t, exec (.lit 0xAB) beforeLit = .next t) ∧ (∃ t, exec (.matchRef 10 1) beforeMatch = .next t) ∧
      ∃ t, exec .copy beforeLastCopy = .next t :=
  ⟨⟨_, rfl⟩, ⟨_, rfl⟩, ⟨_, rfl⟩, ⟨_, rfl⟩, ⟨_, rfl⟩⟩
theorem witness_FailingStepRecordsOnlyTheError :
    ∃ s t : State, s.blk = .busy ∧ s.op = .decompress ∧ s.host = [] ∧ s.dph ≠ .failed ∧ step s = .next t ∧
      t.dph = .failed :=
  ⟨{ beforeMatch with dsize := 5 }, _, rfl, rfl, rfl, by decide, rfl, rfl⟩

/-! ### Encoder -/

theorem witness_EncoderStartStep :
    (encoding .start [] 0).blk = .busy ∧ (encoding .start [] 0).op = .compress ∧ (encoding .start [] 0).eph = .start ∧
      (encoding .start [] 0).n ≤ 2 ^ 24 - 1 := by decide
/-- The other clause: an input of 2^24 bytes. -/
theorem witness_EncoderStartStep_too_large :
    (encoding .start (List.replicate (2 ^ 24) 0) 0).eph = .start ∧
      2 ^ 24 - 1 < (encoding .start (List.replicate (2 ^ 24) 0) 0).n :=
  ⟨rfl, by simp only [State.n, encoding, List.length_replicate]; omega⟩
theorem witness_EncoderParseStep :
    ∃ s : State, s.blk = .busy ∧ s.op = .compress ∧ s.eph = .parse ∧ s.cfg.wf ∧ s.p < s.n ∧ s.grp.length = 7 :=
  ⟨{ encoding .parse aaab 8 with grp := List.replicate 7 (.literal 0) }, by decide⟩
/-- The failing clause: ENC_MIN_DIST 0, which no legal configuration has. -/
theorem witness_EncoderParseStep_fails :
    ∃ s : State, s.blk = .busy ∧ s.op = .compress ∧ s.eph = .parse ∧ s.emode = .greedy ∧
      chooseGreedy s.cfg s.idx s.inp s.p s.n = .error .outOfRange :=
  ⟨{ encoding .parse aaab 0 with cfg := { Config.hardware with encMinDist := 0 }, emode := .greedy },
    rfl, rfl, rfl, rfl, rfl⟩
theorem witness_EncoderFlushStep :
    ∃ s t : State, s.blk = .busy ∧ s.op = .compress ∧ s.eph = .flush ∧ s.grp.length = 7 ∧
      t.blk = .busy ∧ t.op = .compress ∧ t.eph = .flush ∧ t.grp.length = 1 :=
  ⟨{ encoding .flush aaab 9 with grp := List.replicate 7 (.literal 0) },
    { encoding .flush aaab 9 with grp := [.literal 0] }, by decide⟩
theorem witness_EncoderStepsFrame :
    (∃ t, exec .encStart (encoding .start aaab 0) = .next t) ∧ (∃ t, exec .encParse (encoding .parse aaab 8) = .next t) ∧
      ∃ t, exec .encFlush (encoding .flush aaab 9) = .next t := ⟨⟨_, rfl⟩, ⟨_, rfl⟩, ⟨_, rfl⟩⟩

theorem witness_IndexContentReachesNoOutput :
    (encoding .parse aaab 8).cfg.matchSearch = .exhaustive ∧ ∃ t, exec .encParse (encoding .parse aaab 8) = .next t :=
  ⟨rfl, _, rfl⟩

/-! ### Host commands -/

theorem witness_IssuedCommandInitialisesTheUnits :
    State.reset.blk = .idle ∧ lengthLegal State.reset.cfg aaab.length = true := by decide
/-- A bounded MAX_IN_LEN that the input just meets. -/
theorem witness_IssuedCommand_bounded : lengthLegal { Config.hardware with maxInLen := some 9 } aaab.length = true := by decide
/-- The host's next action is `a`. -/
def hostNext (s : State) (a : HostAction) : State := { s with host := [a] }
theorem witness_HostPort_idle (c : Command) :
    (hostNext State.reset (.issue c)).blk = .idle ∧ (hostNext State.reset (.issue c)).host = .issue c :: [] := ⟨rfl, rfl⟩
theorem witness_HostPortIssuesOrRefuses :
    decodeCommand State.reset.cfg ⟨1, some 0, s4, false⟩ = .ok (.decompress .greedy s4) ∧
      decodeCommand State.reset.cfg ⟨2, some 0, [], false⟩ = .error .unknownOp ∧
      decodeCommand State.reset.cfg ⟨0, some 2, [], false⟩ = .error .unknownMode ∧
      (Command.mk 1 (some 0) s4 true).aliasesOutput = true ∧
      (hostNext beforeLit (.issue ⟨1, some 0, s4, false⟩)).blk = .busy ∧
      (hostNext beforeLit (.writeInput 0 0)).blk = .busy ∧
      (hostNext beforeLit (.writeInput 0 0)).host = .writeInput 0 0 :: [] := ⟨rfl, rfl, rfl, rfl, rfl, rfl, rfl⟩
theorem witness_CommandRefusedWhileBusyOrTooLong :
    beforeLit.blk = .busy ∧
      ∃ s : State, s.blk = .idle ∧ s.cfg.maxInLen = some 7 ∧ 7 < s4.length :=
  ⟨rfl, { State.reset with cfg := { Config.hardware with maxInLen := some 7 } }, by decide⟩
theorem witness_CompletionWritesTheResult :
    runsDecoder (decoding .done s4 8) .done ∧ runsDecoder (decoding .failed s4 8) .failed ∧
      (encoding .done aaab 9).eph = .done ∧ (encoding .failed aaab 0).eph = .failed ∧
      (encoding .done aaab 9).op = .compress ∧ (encoding .done aaab 9).blk = .busy ∧ (encoding .done aaab 9).host = [] :=
  ⟨⟨rfl, rfl, rfl, rfl⟩, ⟨rfl, rfl, rfl, rfl⟩, rfl, rfl, rfl, rfl, rfl⟩
theorem witness_OutputReadableOnlyAfterOk :
    { State.reset with resultValid := true }.status = .ok ∧ State.reset.resultValid = false ∧
      { State.reset with status := .error (.dec .badMagic) }.status ≠ .ok := by decide
theorem witness_NothingSurvivesIntoTheNextCommand :
    ∃ s1 s2 t1 t2 : State, s1 ≠ s2 ∧ s1.cfg = s2.cfg ∧ exec (.compress .lazy aaab) s1 = .next t1 ∧
      exec (.compress .lazy aaab) s2 = .next t2 :=
  ⟨State.reset, { State.reset with out := [1], flags := 3, idx := [0, 1] }, _, _, by decide, rfl, rfl, rfl⟩

/-! ### Invariant -/

/-- A running decoder that meets the invariant. -/
theorem inv_beforeLit : Inv beforeLit :=
  ⟨by decide, fun _ _ => by show (_ ∧ _ ∧ _ ∧ _); decide, fun _ h => (by cases h), fun h => absurd rfl h⟩

/-- A running encoder that meets the invariant. -/
theorem inv_encoding_start : Inv (encoding .start aaab 0) :=
  ⟨by decide, fun _ h => (by cases h), fun _ _ => ⟨rfl, rfl, rfl, rfl, rfl⟩, fun h => absurd rfl h⟩

theorem witness_EveryStepKeepsTheInvariant : ∃ s t : State, Inv s ∧ step s = .next t := ⟨beforeLit, _, inv_beforeLit, rfl⟩
theorem witness_EveryStepAnswersUnderTheInvariant : ∃ s : State, Inv s ∧ s.host = [] := ⟨beforeLit, inv_beforeLit, rfl⟩
theorem witness_NoStepFaultsUnderTheInvariant : ∃ s : State, Inv s ∧ s.blk = .busy := ⟨beforeLit, inv_beforeLit, rfl⟩
theorem witness_InputCursorNeverMovesBackward :
    ∃ s t : State, Inv s ∧ s.blk = .busy ∧ s.op = .decompress ∧ s.host = [] ∧ step s = .next t :=
  ⟨beforeLit, _, inv_beforeLit, rfl, rfl, rfl, rfl⟩
theorem witness_BuffersAreAppendOnlyDuringACommand :
    ∃ s t : State, Inv s ∧ s.blk = .busy ∧ step s = .next t := ⟨encoding .start aaab 0, _, inv_encoding_start, rfl, rfl⟩
/-- An encoder at its end, which the next step completes. -/
theorem witness_CompressNeverReportsOutOfRange :
    ∃ s t : State, Inv s ∧ s.blk = .busy ∧ s.op = .compress ∧ step s = .next t ∧ t.blk = .idle :=
  ⟨{ encoding .done [] 0 with eout := [0x10, 0, 0, 0] }, _,
    ⟨by decide, fun _ h => (by cases h), fun _ _ => ⟨rfl, by show (_ ∧ _ ∧ _ ∧ _); decide⟩, fun h => absurd rfl h⟩,
    rfl, rfl, rfl, rfl⟩

/-! ### Big steps -/

theorem witness_DecompressEndsWithDecode :
    State.reset.blk = .idle ∧ lengthLegal State.reset.cfg aaab.length = true ∧ State.reset.host = [] := by decide
theorem witness_CompressEndsWithBigStep :
    State.reset.blk = .idle ∧ lengthLegal State.reset.cfg aaab.length = true ∧ State.reset.host = [] := by decide
theorem witness_EmptyInputGivesHeaderOnly : State.reset.blk = .idle ∧ State.reset.host = [] := by decide
theorem witness_DecodeOfCompressIsTheInput :
    Config.hardware.wf ∧ Config.wf { Config.hardware with matchSearch := .anySound } ∧ aaab.length < 2 ^ 24 := by decide
theorem witness_CompressedHeaderAndLength :
    Config.hardware.wf ∧ compressStream Config.hardware .lazy [0x41, 0x41, 0x41, 0x41] =
      .ok [0x10, 4, 0, 0, 0x40, 0x41, 0, 0] := ⟨by decide, rfl⟩
theorem witness_TrailingBytesAreIgnored : decodeStream 0x10 s4 = .ok (List.replicate 11 0xAB) := by rfl
theorem witness_WellFormedStreamDecodes :
    11 ≤ 2 ^ 24 - 1 ∧ streamWellFormed 11 [.literal 0xAB, .backref 10 1] = true := by decide

end Sys2Proof.Tests
end

section
/-! SUPPORT. The decoder of stream elements, the match finder and the parsing policy: the facts the invariant needs. -/

namespace Sys2Proof.Machine

/-! ### Stream elements -/

theorem readHeader_ok_length {tag : Byte} {bytes : ByteSeq} {size : BitVec 24}
    (h : readHeader tag bytes = .ok size) : 4 ≤ bytes.length := by
  unfold readHeader at h
  split at h
  · cases h
  · split at h
    · cases h
    · split at h
      · simp only [List.length_cons]; omega
      · cases h

/-- Everything a header slot decodes to. -/
theorem decode_header_ok {tag : Byte} {bytes rest : ByteSeq} {i : Instr}
    (h : decode tag .header bytes = .ok (i, rest)) : 4 ≤ bytes.length ∧ ∃ size, i = .hdr size := by
  simp only [decode] at h
  split at h
  · cases h; exact ⟨readHeader_ok_length ‹_›, _, rfl⟩
  · cases h
  · cases h

theorem decode_flagByte_ok {tag : Byte} {bytes rest : ByteSeq} {i : Instr}
    (h : decode tag .flagByte bytes = .ok (i, rest)) : 1 ≤ bytes.length ∧ ∃ f, i = .flags f := by
  cases bytes with
  | nil => cases h
  | cons b bs => cases h; exact ⟨by simp, _, rfl⟩

theorem decode_literal_ok {tag : Byte} {bytes rest : ByteSeq} {i : Instr}
    (h : decode tag (.token false) bytes = .ok (i, rest)) : 1 ≤ bytes.length ∧ ∃ b, i = .lit b := by
  cases bytes with
  | nil => cases h
  | cons b bs => cases h; exact ⟨by simp, _, rfl⟩

theorem decode_match_ok {tag : Byte} {bytes rest : ByteSeq} {i : Instr}
    (h : decode tag (.token true) bytes = .ok (i, rest)) : 2 ≤ bytes.length ∧ ∃ L D, i = .matchRef L D := by
  match bytes, h with
  | [], h => cases h
  | [_], h => cases h
  | _ :: _ :: _, h => cases h; exact ⟨by simp, _, _, rfl⟩

/-! ### The match finder -/

theorem mlenFrom_le (input : ByteSeq) (p D fuel L : Nat) : mlenFrom input p D fuel L ≤ L + fuel := by
  induction fuel generalizing L with
  | zero => exact Nat.le_refl L
  | succ fuel ih =>
    unfold mlenFrom
    split
    · exact (ih (L + 1)).trans (by omega)
    · omega

theorem mlen_le (input : ByteSeq) (p D maxL : Nat) : mlen input p D maxL ≤ maxL := by
  simpa [mlen] using mlenFrom_le input p D maxL 0

/-- The search keeps the best it was given or answers a distance it tried, with that distance's match length. -/
theorem bestFrom_eq_or (input : ByteSeq) (p maxL count D : Nat) (best : Nat × Nat) :
    bestFrom input p maxL count D best = best ∨
      ∃ D', D ≤ D' ∧ D' < D + count ∧ bestFrom input p maxL count D best = (mlen input p D' maxL, D') := by
  induction count generalizing D best with
  | zero => exact .inl rfl
  | succ count ih =>
    simp only [bestFrom]
    obtain h | ⟨D', hlo, hhi, h⟩ := ih (D + 1) (if best.1 < mlen input p D maxL then (mlen input p D maxL, D) else best)
    · rw [h]
      split
      · exact .inr ⟨D, by omega, by omega, rfl⟩
      · exact .inl rfl
    · exact .inr ⟨D', by omega, by omega, h⟩

/-- A token the encoder may emit at position `p` of an input of length `n` (44_lz77_encoder_parser.md R216). -/
def TokenFits (p n : Nat) (t : Token) : Prop := t.valid = true ∧ p + dlen t ≤ n

theorem tokenFits_backref {L D p n : Nat} (hlo : 3 ≤ L) (hhi : L ≤ maxLen p n) (hD : 1 ≤ D) (hW : D ≤ min windowSize p)
    (hp : p ≤ n) : TokenFits p n (.backref L D) := by
  simp only [maxLen, maxMatch, windowSize, Nat.le_min] at hhi hW
  exact ⟨(valid_backref_iff L D).2 (by omega), by simp only [dlen]; omega⟩

/-- With a legal configuration the exhaustive search never fails, and a match it answers fits (R181, R189). -/
theorem findExhaustive_ok {minDistance : Nat} (hmin : 1 ≤ minDistance) (input : ByteSeq) {p n : Nat} (hp : p ≤ n) :
    ∃ m, findExhaustive minDistance input p n = .ok m ∧ ∀ t, m = some t → TokenFits p n t := by
  unfold findExhaustive
  obtain h | ⟨D, hlo, hhi, h⟩ :=
    bestFrom_eq_or input p (maxLen p n) (min windowSize p + 1 - minDistance) minDistance (0, 0)
  · exact ⟨none, by simp [h], by simp⟩
  · simp only [h]
    split
    · exact ⟨none, rfl, by simp⟩
    · have hfit : TokenFits p n (.backref (mlen input p D (maxLen p n)) D) :=
        tokenFits_backref (Nat.not_lt.1 ‹_›) (mlen_le ..) (by omega) (by omega) hp
      refine ⟨some (.backref (mlen input p D (maxLen p n)) D), ?_, by rintro t ⟨⟩; exact hfit⟩
      rw [mkMatch_eq, if_pos hfit.1]

/-- A free proposal is answered only where it fits (R189, R190). -/
theorem findAnySound_ok (idx : List Nat) (input : ByteSeq) {p n : Nat} (hp : p ≤ n) :
    ∃ m, findAnySound idx input p n = .ok m ∧ ∀ t, m = some t → TokenFits p n t := by
  unfold findAnySound
  split
  · exact ⟨none, rfl, by simp⟩
  · split
    · next L D _ hs =>
      obtain ⟨hlo, hhi, hD, hW, -⟩ := of_decide_eq_true hs
      exact ⟨some (.backref L D), rfl, by rintro t ⟨⟩; exact tokenFits_backref hlo hhi hD hW hp⟩
    · exact ⟨none, rfl, by simp⟩

/-- Either search, under a legal configuration, answers `NoMatch` or a token that fits. -/
theorem findMatch_ok {cfg : Config} (hcfg : cfg.wf) (idx : List Nat) (input : ByteSeq) {p n : Nat} (hp : p ≤ n) :
    ∃ m, findMatch cfg idx input p n = .ok m ∧ ∀ t, m = some t → TokenFits p n t := by
  unfold findMatch
  split
  · exact findExhaustive_ok hcfg input hp
  · exact findAnySound_ok idx input hp

/-- With EXHAUSTIVE the finder does not read the index (10_state.md R38). -/
theorem findMatch_idx_irrelevant {cfg : Config} (h : cfg.matchSearch = .exhaustive) (idx idx' : List Nat) :
    findMatch cfg idx = findMatch cfg idx' := by
  funext input p n
  simp [findMatch, h]

/-! ### The parsing policy -/

theorem literalAt_of_lt {input : ByteSeq} {p : Nat} (hp : p < input.length) :
    literalAt input p = some (.literal input[p]) := by
  simp [literalAt, hp]

theorem tokenFits_literal (b : Byte) {p n : Nat} (hp : p < n) : TokenFits p n (.literal b) := ⟨rfl, hp⟩

/-- Greedy always answers a token that fits where a byte is left (R213, R216). -/
theorem chooseGreedy_ok {cfg : Config} (hcfg : cfg.wf) (idx : List Nat) {input : ByteSeq} {p : Nat}
    (hp : p < input.length) :
    ∃ c, chooseGreedy cfg idx input p input.length = .ok (some c) ∧ TokenFits p input.length c := by
  obtain ⟨m, hm, hfit⟩ := findMatch_ok hcfg idx input hp.le
  unfold chooseGreedy
  cases m with
  | none => exact ⟨.literal input[p], by simp only [hm, literalAt_of_lt hp], tokenFits_literal _ hp⟩
  | some t => exact ⟨t, by simp only [hm], hfit t rfl⟩

/-- Lazy always answers a token that fits where a byte is left: the match at `p`, or the literal (R214, R216). -/
theorem chooseLazy_ok {cfg : Config} (hcfg : cfg.wf) (idx : List Nat) {input : ByteSeq} {p : Nat}
    (hp : p < input.length) :
    ∃ c, chooseLazy cfg idx input p input.length = .ok (some c) ∧ TokenFits p input.length c := by
  obtain ⟨m0, hm0, hfit⟩ := findMatch_ok hcfg idx input hp.le
  obtain ⟨m1, hm1, -⟩ := findMatch_ok hcfg idx input (p := p + 1) hp
  unfold chooseLazy
  cases m0 with
  | none => exact ⟨.literal input[p], by simp only [hm0, literalAt_of_lt hp], tokenFits_literal _ hp⟩
  | some t0 =>
    cases m1 with
    | none => exact ⟨t0, by simp only [hm0, hm1], hfit t0 rfl⟩
    | some t1 =>
      by_cases hlt : dlen t0 < dlen t1
      · exact ⟨.literal input[p], by simp only [hm0, hm1, if_pos hlt, literalAt_of_lt hp], tokenFits_literal _ hp⟩
      · exact ⟨t0, by simp only [hm0, hm1, if_neg hlt], hfit t0 rfl⟩

theorem choose_ok {cfg : Config} (hcfg : cfg.wf) (mode : Mode) (idx : List Nat) {input : ByteSeq} {p : Nat}
    (hp : p < input.length) :
    ∃ c, choose cfg mode idx input p input.length = .ok (some c) ∧ TokenFits p input.length c := by
  cases mode with
  | greedy => exact chooseGreedy_ok hcfg idx hp
  | lazy => exact chooseLazy_ok hcfg idx hp

theorem choose_idx_irrelevant {cfg : Config} (h : cfg.matchSearch = .exhaustive) (mode : Mode) (idx idx' : List Nat) :
    choose cfg mode idx = choose cfg mode idx' := by
  funext input p n
  cases mode <;> simp only [choose, chooseGreedy, chooseLazy, findMatch_idx_irrelevant h idx idx']

end Sys2Proof.Machine
end

section
/-! SUPPORT. What a step of the machine can do: one inversion for the host's part, one for each unit. -/

namespace Sys2Proof.Machine

/-- What the machine does with an action. -/
def Action.result : Action → Res
  | .run i s => exec i s
  | .settle s => .next s
  | .refuse r => .refused r

theorem step_eq_result (s : State) : step s = (nextAction s).result := by
  unfold step
  cases nextAction s <;> rfl

/-! ### The host's part -/

theorem decodeCommand_ok {cfg : Config} {c : Command} {i : Instr} (h : decodeCommand cfg c = .ok i) :
    ∃ m, decodeMode cfg c.mode = .ok m ∧
      (c.op = 0 ∧ i = .compress m c.input ∨ c.op = 1 ∧ i = .decompress m c.input) := by
  unfold decodeCommand at h
  split at h <;> cases h
  · next m ho hm => exact ⟨m, hm, .inl ⟨ho, rfl⟩⟩
  · next m ho hm => exact ⟨m, hm, .inr ⟨ho, rfl⟩⟩

/-- Issuing a command in IDLE, where it answers a state, starts it. -/
theorem issueAction_next {c : Command} {s t : State} (h : (issueAction c s).result = .next t) :
    ∃ o m, t = started o m c.input s := by
  unfold issueAction at h
  split at h
  · cases h
  · split at h
    · next i hi =>
      obtain ⟨m, -, ⟨-, rfl⟩ | ⟨-, rfl⟩⟩ := decodeCommand_ok hi
      · exact ⟨.compress, m, (issue_next_iff.1 h).2.2⟩
      · exact ⟨.decompress, m, (issue_next_iff.1 h).2.2⟩
    · cases h
    · cases h

/-- A step in IDLE takes a host action off the list at most, or starts a command. -/
theorem idleAction_next {s t : State} (h : (idleAction s).result = .next t) :
    ∃ rest, t = { s with host := rest } ∨ ∃ o m input, t = started o m input { s with host := rest } := by
  unfold idleAction at h
  split at h
  · exact ⟨s.host, .inl (next_comm.1 h)⟩
  · next c rest _ =>
    obtain ⟨o, m, ht⟩ := issueAction_next h
    exact ⟨rest, .inr ⟨o, m, c.input, ht⟩⟩
  all_goals exact ⟨_, .inl (next_comm.1 h)⟩

/-- A step in BUSY is a step of the running unit. -/
theorem busyAction_next {s t : State} (h : (busyAction s).result = .next t) :
    ∃ rest, (unitAction { s with host := rest }).result = .next t := by
  unfold busyAction at h
  split at h
  · exact ⟨s.host, h⟩
  · cases h
  · cases h
  · exact ⟨_, h⟩
  · exact ⟨s.host, h⟩

/-- Everything a step that answers a state can have done, whatever the host does. -/
theorem step_next_cases {s t : State} (h : step s = .next t) :
    ∃ rest,
      (s.blk = .idle ∧ t = { s with host := rest }) ∨
      (s.blk = .idle ∧ ∃ o m input, t = started o m input { s with host := rest }) ∨
      (s.blk = .busy ∧ (unitAction { s with host := rest }).result = .next t) := by
  rw [step_eq_result, nextAction] at h
  split at h
  · next hb =>
    obtain ⟨rest, ht | ht⟩ := idleAction_next h
    · exact ⟨rest, .inl ⟨hb, ht⟩⟩
    · exact ⟨rest, .inr (.inl ⟨hb, ht⟩)⟩
  · next hb =>
    obtain ⟨rest, ht⟩ := busyAction_next h
    exact ⟨rest, .inr (.inr ⟨hb, ht⟩)⟩

theorem completeAction_next {s t : State} (h : (completeAction s).result = .next t) : complete s = some t := by
  unfold completeAction at h
  split at h
  · next s' hs => rw [hs]; exact congrArg some (next_inj.1 h)
  · cases h

/-- A fetch that answers a state ran the decoded element, or raised an error. -/
theorem fetchElement_next {sl : Slot} {s t : State} (h : (fetchElement sl s).result = .next t) :
    (∃ i rest, decode s.cfg.tag sl (s.fetchBytes sl) = .ok (i, rest) ∧ exec i s = .next t) ∨
      ∃ e, t = raise (.dec e) s := by
  obtain ⟨i, rest, hd, ha⟩ | ⟨r, -, ha⟩ := fetchElement_eq sl s
  · rw [ha] at h; exact .inl ⟨i, rest, hd, h⟩
  · rw [ha] at h; exact .inr ⟨r.toError, next_comm.1 h⟩

/-! ### The decoder -/

/-- What a step of a running DECOMPRESS can do (42_lz77_decoder.md R151 to R160): the phase or the token due that
selects the step, the input bytes its fetch has found, and what it writes. -/
inductive DecoderStep (s : State) : State → Prop
  | header (size : BitVec 24) (phase : s.dph = .expectHeader) (fetched : 4 ≤ s.inp.length) :
      DecoderStep s { s with dsize := size, ip := 4, dph := if size = 0 then .done else .expectFlagGroup }
  | flagByte (f : Byte) (phase : s.dph = .expectFlagGroup) (fetched : s.ip + 1 ≤ s.inp.length) :
      DecoderStep s { s with flags := f, ip := s.ip + 1, nbit := 0, dph := .inGroup }
  | literal (b : Byte) (due : s.tokenDue false = true) (fetched : s.ip + 1 ≤ s.inp.length) :
      DecoderStep s (boundary (State.countToken (State.outAppend { s with ip := s.ip + 1 } b)))
  | matchFails (e : DecodeError) (due : s.tokenDue true = true) (fetched : s.ip + 2 ≤ s.inp.length) :
      DecoderStep s (raise (.dec e) { s with ip := s.ip + 2 })
  | matchStarts (L D : Nat) (due : s.tokenDue true = true) (fetched : s.ip + 2 ≤ s.inp.length)
      (valid : (Token.backref L D).valid = true) (distance : D ≤ s.out.length)
      (length : s.out.length + L ≤ s.dsize.toNat) :
      DecoderStep s (startCopy L D { s with ip := s.ip + 2 })
  | copy (b : Byte) (phase : s.dph = .copying) (left : s.crem ≠ 0) (source : s.outReadBack s.cdist.toNat = some b) :
      DecoderStep s (if s.crem = 1 then boundary (copyByte b s) else copyByte b s)
  | fetchFails (e : DecodeError) (sl : Slot) (reading : s.slot = some sl) : DecoderStep s (raise (.dec e) s)
  | completes (t : State) (ended : complete s = some t) : DecoderStep s t

theorem decoderStep_of_expectHeader {s t : State} (hd : s.dph = .expectHeader)
    (h : (fetchElement .header s).result = .next t) : DecoderStep s t := by
  obtain ⟨i, rest, hdec, hx⟩ | ⟨e, rfl⟩ := fetchElement_next h
  · obtain ⟨hlen, size, rfl⟩ := decode_header_ok hdec
    obtain ⟨-, rfl⟩ := execHdr_next_iff.1 hx
    exact .header size hd hlen
  · exact .fetchFails e .header (by rw [State.slot, hd])

theorem decoderStep_of_expectFlagGroup {s t : State} (hd : s.dph = .expectFlagGroup)
    (h : (fetchElement .flagByte s).result = .next t) : DecoderStep s t := by
  obtain ⟨i, rest, hdec, hx⟩ | ⟨e, rfl⟩ := fetchElement_next h
  · obtain ⟨hlen, f, rfl⟩ := decode_flagByte_ok hdec
    obtain ⟨-, rfl⟩ := execFlags_next_iff.1 hx
    simp only [State.fetchBytes, List.length_drop] at hlen
    exact .flagByte f hd (by omega)
  · exact .fetchFails e .flagByte (by rw [State.slot, hd])

theorem decoderStep_of_token {s t : State} {k : Bool} (hslot : s.slot = some (.token k))
    (h : (fetchElement (.token k) s).result = .next t) : DecoderStep s t := by
  obtain ⟨i, rest, hdec, hx⟩ | ⟨e, rfl⟩ := fetchElement_next h
  · simp only [State.fetchBytes] at hdec
    cases k with
    | false =>
      obtain ⟨hlen, b, rfl⟩ := decode_literal_ok hdec
      obtain ⟨hdue, rfl⟩ := execLit_next_iff.1 hx
      rw [List.length_drop] at hlen
      exact .literal b hdue (by omega)
    | true =>
      obtain ⟨hlen, L, D, rfl⟩ := decode_match_ok hdec
      rw [List.length_drop] at hlen
      obtain ⟨hv, hdue, ⟨-, rfl⟩ | ⟨-, -, rfl⟩ | ⟨hD, hL, rfl⟩⟩ := execMatchRef_next_iff.1 hx
      · exact .matchFails .badDistance hdue (by omega)
      · exact .matchFails .sizeMismatch hdue (by omega)
      · exact .matchStarts L D hdue (by omega) hv hD hL
  · exact .fetchFails e (.token k) hslot

/-- The slot a token is read from, by its flag bit (42_lz77_decoder.md R154). -/
theorem slot_inGroup {s : State} (hd : s.dph = .inGroup) :
    s.slot = if s.nbit.toNat < 8 then some (.token (flagBit s.flags s.nbit.toNat)) else none := by
  rw [State.slot, hd]
  by_cases hn : s.nbit.toNat < 8 <;> simp [State.nextKind, hn]

theorem decoderStep_of_unitAction {s t : State} (hop : s.op = .decompress)
    (h : (unitAction s).result = .next t) : DecoderStep s t := by
  simp only [unitAction, hop, decoderAction] at h
  cases hd : s.dph with
  | expectHeader => simp only [State.slot, hd] at h; exact decoderStep_of_expectHeader hd h
  | expectFlagGroup => simp only [State.slot, hd] at h; exact decoderStep_of_expectFlagGroup hd h
  | inGroup =>
    have hslot := slot_inGroup hd
    by_cases hn : s.nbit.toNat < 8
    · rw [if_pos hn] at hslot
      simp only [hslot] at h
      exact decoderStep_of_token hslot h
    · rw [if_neg hn] at hslot
      simp only [hslot, hd] at h
      exact .completes t (completeAction_next h)
  | copying =>
    simp only [State.slot, hd] at h
    obtain ⟨-, hleft, b, hb, rfl⟩ := execCopy_next_iff.1 h
    exact .copy b hd hleft hb
  | done => simp only [State.slot, hd] at h; exact .completes t (completeAction_next h)
  | failed => simp only [State.slot, hd] at h; exact .completes t (completeAction_next h)

/-! ### The encoder -/

/-- What a step of a running COMPRESS can do under a legal configuration with a byte left to parse
(44_lz77_encoder_parser.md R210 to R220). -/
inductive EncoderStep (s : State) : State → Prop
  | start (phase : s.eph = .start) (size : s.n ≤ maxSize) :
      EncoderStep s { s with eout := headerBytes s.cfg.tag s.n, eph := if s.n = 0 then .done else .parse }
  | tooLarge (phase : s.eph = .start) (size : maxSize < s.n) : EncoderStep s (raise (.enc .sizeTooLarge) s)
  | parse (t : Token) (phase : s.eph = .parse) (fits : TokenFits s.p s.n t) :
      EncoderStep s (endOfInput (groupOutIfFull (pushToken t s)))
  | flush (phase : s.eph = .flush) : EncoderStep s (endFlush (groupOut s))
  | completes (t : State) (ended : complete s = some t) : EncoderStep s t

/-- Under a legal configuration the parse step with a byte left emits a token that fits; it never fails (R216). -/
theorem encoderStep_of_parse {s t : State} (hcfg : s.cfg.wf) (hp : s.p < s.n) (hd : s.eph = .parse)
    (h : execEncParse s = .next t) : EncoderStep s t := by
  obtain ⟨c, hc, hfit⟩ := choose_ok hcfg s.emode s.idx hp
  have hk := construct_of_valid hfit.1
  obtain ⟨-, ⟨e, he, -⟩ | ⟨c', e, hc', he, -⟩ | ⟨c', tok, hc', htok, rfl⟩⟩ := execEncParse_next_iff.1 h
  · cases hc.symm.trans he
  · cases hc.symm.trans hc'
    cases hk.symm.trans he
  · cases hc.symm.trans hc'
    cases hk.symm.trans htok
    exact .parse c hd hfit

theorem encoderStep_of_unitAction {s t : State} (hop : s.op = .compress) (hcfg : s.cfg.wf)
    (hp : s.eph = .parse → s.p < s.n) (h : (unitAction s).result = .next t) : EncoderStep s t := by
  simp only [unitAction, hop, encoderAction] at h
  cases hd : s.eph with
  | start =>
    simp only [hd] at h
    obtain ⟨-, ⟨hn, rfl⟩ | ⟨hn, rfl⟩⟩ := execEncStart_next_iff.1 h
    · exact .tooLarge hd hn
    · exact .start hd hn
  | parse => simp only [hd] at h; exact encoderStep_of_parse hcfg (hp hd) hd h
  | flush =>
    simp only [hd] at h
    obtain ⟨-, rfl⟩ := execEncFlush_next_iff.1 h
    exact .flush hd
  | done => simp only [hd] at h; exact .completes t (completeAction_next h)
  | failed => simp only [hd] at h; exact .completes t (completeAction_next h)

end Sys2Proof.Machine
end

section
/-! SUPPORT. Every step keeps the invariant. -/

namespace Sys2Proof.Machine

/-! ### Host actions and completion -/

theorem Inv.withHost {s : State} (hi : Inv s) (rest : List HostAction) : Inv { s with host := rest } :=
  ⟨hi.cfg, hi.decoder, hi.encoder, hi.result⟩

theorem Inv.started {s : State} (hi : Inv s) (o : Op) (m : Mode) (input : ByteSeq) : Inv (started o m input s) :=
  ⟨hi.cfg, fun _ _ => ⟨rfl, rfl, rfl⟩, fun _ _ => ⟨rfl, rfl, rfl, rfl, rfl⟩, hi.result⟩

theorem Inv.finish {s : State} (hi : Inv s) {st : Status} {bs : ByteSeq} (h : st ≠ .ok → bs = []) :
    Inv (finish st bs s) :=
  ⟨hi.cfg, fun hb => by simp at hb, fun hb => by simp at hb, h⟩

theorem Inv.complete {s t : State} (hi : Inv s) (h : complete s = some t) : Inv t := by
  obtain ⟨-, -, rfl⟩ | ⟨-, -, rfl⟩ | ⟨-, -, rfl⟩ | ⟨-, -, rfl⟩ := complete_some_iff.1 h
  · exact hi.finish fun h => absurd rfl h
  · exact hi.finish fun _ => rfl
  · exact hi.finish fun h => absurd rfl h
  · exact hi.finish fun _ => rfl

/-! ### The decoder -/

/-- In every phase the cursor is inside the input and the output inside the declared size (10_state.md R24, R27). -/
theorem State.decoderOk.bounds {s : State} (ok : s.decoderOk) :
    s.ip ≤ s.inp.length ∧ s.out.length ≤ s.dsize.toNat := by
  unfold State.decoderOk at ok
  split at ok
  · obtain ⟨hip, hout, -⟩ := ok; simp [hip, hout]
  all_goals omega

theorem decoderOk_raise {s : State} (hip : s.ip ≤ s.inp.length) (hout : s.out.length ≤ s.dsize.toNat)
    (e : DecodeError) : (raise (.dec e) s).decoderOk := ⟨hip, hout⟩

/-- The token boundary leads to a phase whose conditions hold (42_lz77_decoder.md R158). -/
theorem decoderOk_boundary {s : State} (hlo : 4 ≤ s.ip) (hip : s.ip ≤ s.inp.length)
    (hout : s.out.length ≤ s.dsize.toNat) (hnbit : s.nbit.toNat ≤ 8) : (boundary s).decoderOk := by
  unfold boundary State.decoderOk
  by_cases hend : s.out.length = s.dsize.toNat
  · simp only [if_pos hend]; exact ⟨hip, hend⟩
  · have hlt : s.out.length < s.dsize.toNat := by omega
    by_cases hn : s.nbit.toNat = 8
    · simp only [if_neg hend, if_pos hn]; exact ⟨hlo, hip, hlt⟩
    · simp only [if_neg hend, if_neg hn]; exact ⟨hlo, hip, hlt, by omega⟩

theorem toNat_nbit_add_one {n : BitVec 4} (h : n.toNat < 8) : (n + 1).toNat = n.toNat + 1 := by
  rw [BitVec.toNat_add]
  exact Nat.mod_eq_of_lt (by simp; omega)

theorem decoderOk_header {s : State} (hip : 4 ≤ s.inp.length) (hout : s.out = []) (size : BitVec 24) :
    ({ s with dsize := size, ip := 4, dph := if size = 0 then .done else .expectFlagGroup } : State).decoderOk := by
  unfold State.decoderOk
  by_cases h : size = 0
  · simp only [if_pos h]; exact ⟨hip, by simp [hout, h]⟩
  · have hpos : 0 < size.toNat := Nat.pos_of_ne_zero fun h0 => h (BitVec.eq_of_toNat_eq (by simpa using h0))
    simp only [if_neg h]; exact ⟨Nat.le_refl 4, hip, by simpa [hout] using hpos⟩

theorem decoderOk_startCopy {s : State} {L D : Nat} (hlo : 4 ≤ s.ip) (hip : s.ip ≤ s.inp.length)
    (hnbit : s.nbit.toNat < 8) (hv : (Token.backref L D).valid = true) (hD : D ≤ s.out.length)
    (hL : s.out.length + L ≤ s.dsize.toNat) : (startCopy L D s).decoderOk := by
  obtain ⟨hL3, hL18, hD1, hD4096⟩ := (valid_backref_iff L D).1 hv
  have hcrem : (BitVec.ofNat 5 L).toNat = L := Nat.mod_eq_of_lt (by omega)
  have hcdist : (BitVec.ofNat 13 D).toNat = D := Nat.mod_eq_of_lt (by omega)
  simp only [State.decoderOk, startCopy, hcrem, hcdist, toNat_nbit_add_one hnbit]
  omega

/-- A copied byte leaves one less to copy, and the copy ends at a boundary (R157). -/
theorem decoderOk_copy {s : State} (hd : s.dph = .copying) (ok : s.decoderOk) (b : Byte) :
    (if s.crem = 1 then boundary (copyByte b s) else copyByte b s).decoderOk := by
  simp only [State.decoderOk, hd] at ok
  obtain ⟨hlo, hip, hnbit, hcrem, hcrem18, hD1, hD4096, hD, hL⟩ := ok
  split
  · apply decoderOk_boundary <;> simp <;> omega
  · next hne =>
    have hne : s.crem.toNat ≠ 1 := fun h => hne (BitVec.eq_of_toNat_eq (by simpa using h))
    have hdec : (s.crem - 1).toNat = s.crem.toNat - 1 := by
      rw [BitVec.toNat_sub_of_le (by simpa [BitVec.le_def] using hcrem)]; rfl
    simp only [State.decoderOk, copyByte_dph, hd, copyByte_ip, copyByte_inp, copyByte_nbit, copyByte_crem,
      copyByte_cdist, copyByte_out, copyByte_dsize, hdec, List.length_append, List.length_singleton]
    omega

/-- A decoder step that writes the decoder's registers only keeps the invariant where their conditions hold. -/
theorem Inv.ofDecoder {s t : State} (hi : Inv s) (hop : s.op = .decompress)
    (frame : t.cfg = s.cfg ∧ t.op = s.op ∧ t.status = s.status ∧ t.output = s.output) (ok : t.decoderOk) : Inv t := by
  obtain ⟨hcfg, hop', hst, hout⟩ := frame
  refine ⟨hcfg ▸ hi.cfg, fun _ _ => ok, fun _ h => ?_, by rw [hst, hout]; exact hi.result⟩
  rw [hop', hop] at h
  cases h

theorem Inv.decoderStep {s t : State} (hi : Inv s) (hop : s.op = .decompress) (ok : s.decoderOk)
    (h : DecoderStep s t) : Inv t := by
  have ⟨hip, hout⟩ := ok.bounds
  cases h with
  | header size phase fetched =>
    simp only [State.decoderOk, phase] at ok
    exact hi.ofDecoder hop ⟨rfl, rfl, rfl, rfl⟩ (decoderOk_header fetched ok.2.1 size)
  | flagByte f phase fetched =>
    simp only [State.decoderOk, phase] at ok
    exact hi.ofDecoder hop ⟨rfl, rfl, rfl, rfl⟩ ⟨Nat.le_succ_of_le ok.1, fetched, ok.2.2, Nat.zero_lt_succ 7⟩
  | literal b due fetched =>
    obtain ⟨-, -, phase, hnbit, -⟩ := (tokenDue_iff s false).1 due
    simp only [State.decoderOk, phase] at ok
    obtain ⟨hlo, -, hlt, -⟩ := ok
    refine hi.ofDecoder hop ⟨rfl, rfl, rfl, rfl⟩ (decoderOk_boundary ?_ ?_ ?_ ?_)
    · exact Nat.le_succ_of_le hlo
    · exact fetched
    · simpa using hlt
    · exact (toNat_nbit_add_one hnbit).trans_le hnbit
  | matchFails e due fetched =>
    exact hi.ofDecoder hop ⟨rfl, rfl, rfl, rfl⟩ (decoderOk_raise (s := { s with ip := s.ip + 2 }) fetched hout e)
  | matchStarts L D due fetched valid distance length =>
    obtain ⟨-, -, phase, hnbit, -⟩ := (tokenDue_iff s true).1 due
    simp only [State.decoderOk, phase] at ok
    exact hi.ofDecoder hop ⟨rfl, rfl, rfl, rfl⟩
      (decoderOk_startCopy (Nat.le_add_right_of_le ok.1) fetched hnbit valid distance length)
  | copy b phase left source =>
    exact hi.ofDecoder hop (by split <;> exact ⟨rfl, rfl, rfl, rfl⟩) (decoderOk_copy phase ok b)
  | fetchFails e sl reading => exact hi.ofDecoder hop ⟨rfl, rfl, rfl, rfl⟩ (decoderOk_raise hip hout e)
  | completes t ended => exact hi.complete ended

/-! ### The encoder -/

/-- The pending tokens, the output and the phase conditions of a parse in progress or just ended. -/
theorem encoderOk_endOfInput {s : State} (hmode : s.emode = s.mode) (hd : s.eph = .parse) (hp : s.p ≤ s.n)
    (hn : s.n ≤ maxSize) (hlen : s.grp.length ≤ 7) (hvalid : s.grp.all Token.valid = true)
    (hout : headerBytes s.cfg.tag s.n <+: s.eout) (hidx : s.idx = List.range s.p) : (endOfInput s).encoderOk := by
  refine ⟨hmode, ?_⟩
  unfold endOfInput
  by_cases hend : s.p = s.n
  · by_cases hpend : 0 < s.grp.length
    · simp only [if_pos hend, if_pos hpend]; exact ⟨hend, hn, hpend, hlen, hvalid, hout⟩
    · simp only [if_pos hend, if_neg hpend]; exact ⟨hend, hn, by simpa using hpend, hout⟩
  · simp only [if_neg hend, hd]; exact ⟨by simp only [State.n] at *; omega, hn, hlen, hvalid, hout, hidx⟩

/-- After a full group is written at most 7 tokens are pending. -/
theorem groupOutIfFull_grp_length {s : State} (h : s.grp.length ≤ 8) : (groupOutIfFull s).grp.length ≤ 7 := by
  unfold groupOutIfFull
  split
  · simp
  · omega

theorem groupOutIfFull_grp_valid {s : State} (h : s.grp.all Token.valid = true) :
    (groupOutIfFull s).grp.all Token.valid = true := by
  unfold groupOutIfFull
  split
  · rfl
  · exact h

/-- Writing a full group only extends the output. -/
theorem prefix_groupOutIfFull_eout (s : State) : s.eout <+: (groupOutIfFull s).eout := by
  unfold groupOutIfFull
  split
  · exact List.prefix_append ..
  · exact List.prefix_rfl

theorem encoderOk_parse {s : State} (hd : s.eph = .parse) (ok : s.encoderOk) {t : Token} (hfit : TokenFits s.p s.n t) :
    (endOfInput (groupOutIfFull (pushToken t s))).encoderOk := by
  obtain ⟨hmode, ok⟩ := ok
  simp only [hd] at ok
  obtain ⟨-, hn, hlen, hvalid, hout, hidx⟩ := ok
  apply encoderOk_endOfInput
  · simpa using hmode
  · simpa using hd
  · simpa [State.n] using hfit.2
  · simpa [State.n] using hn
  · exact groupOutIfFull_grp_length (by simpa using Nat.succ_le_succ hlen)
  · exact groupOutIfFull_grp_valid (by simpa [hfit.1] using hvalid)
  · simpa [State.n] using hout.trans (prefix_groupOutIfFull_eout (pushToken t s))
  · simpa [hidx, List.range_eq_range'] using List.range'_append_1 (s := 0) (m := s.p) (n := dlen t)

theorem encoderOk_start {s : State} (hd : s.eph = .start) (ok : s.encoderOk) (hn : s.n ≤ maxSize) :
    ({ s with eout := headerBytes s.cfg.tag s.n, eph := if s.n = 0 then .done else .parse } : State).encoderOk := by
  obtain ⟨hmode, ok⟩ := ok
  simp only [hd] at ok
  obtain ⟨hp, hgrp, -, hidx⟩ := ok
  refine ⟨hmode, ?_⟩
  by_cases h0 : s.n = 0
  · simp only [if_pos h0]; exact ⟨hp.trans h0.symm, hn, hgrp, List.prefix_rfl⟩
  · simp only [if_neg h0]
    exact ⟨by simp only [hp]; exact Nat.pos_of_ne_zero h0, hn, by simp [hgrp], by simp [hgrp], List.prefix_rfl,
      by simp [hp, hidx]⟩

theorem encoderOk_flush {s : State} (hd : s.eph = .flush) (ok : s.encoderOk) : (endFlush (groupOut s)).encoderOk := by
  obtain ⟨hmode, ok⟩ := ok
  simp only [hd] at ok
  obtain ⟨hp, hn, -, -, -, hout⟩ := ok
  exact ⟨hmode, hp, hn, rfl, hout.trans (List.prefix_append ..)⟩

/-- `SizeTooLarge`, before anything is written (60_exceptions.md R262). -/
theorem encoderOk_tooLarge {s : State} (hd : s.eph = .start) (ok : s.encoderOk) (hn : maxSize < s.n) :
    (raise (.enc .sizeTooLarge) s).encoderOk := by
  obtain ⟨hmode, ok⟩ := ok
  simp only [hd] at ok
  obtain ⟨-, -, hout, -⟩ := ok
  exact ⟨hmode, rfl, hn, hout⟩

/-- An encoder step that writes the encoder's registers only keeps the invariant where their conditions hold. -/
theorem Inv.ofEncoder {s t : State} (hi : Inv s) (hop : s.op = .compress)
    (frame : t.cfg = s.cfg ∧ t.op = s.op ∧ t.status = s.status ∧ t.output = s.output) (ok : t.encoderOk) : Inv t := by
  obtain ⟨hcfg, hop', hst, hout⟩ := frame
  refine ⟨hcfg ▸ hi.cfg, fun _ h => ?_, fun _ _ => ok, by rw [hst, hout]; exact hi.result⟩
  rw [hop', hop] at h
  cases h

theorem Inv.encoderStep {s t : State} (hi : Inv s) (hop : s.op = .compress) (ok : s.encoderOk)
    (h : EncoderStep s t) : Inv t := by
  cases h with
  | start phase size => exact hi.ofEncoder hop ⟨rfl, rfl, rfl, rfl⟩ (encoderOk_start phase ok size)
  | tooLarge phase size => exact hi.ofEncoder hop ⟨rfl, rfl, rfl, rfl⟩ (encoderOk_tooLarge phase ok size)
  | parse t phase fits => exact hi.ofEncoder hop (by simp) (encoderOk_parse phase ok fits)
  | flush phase => exact hi.ofEncoder hop ⟨rfl, rfl, rfl, rfl⟩ (encoderOk_flush phase ok)
  | completes t ended => exact hi.complete ended

theorem State.encoderOk.byteLeft {s : State} (ok : s.encoderOk) (hd : s.eph = .parse) : s.p < s.n := by
  obtain ⟨-, ok⟩ := ok
  simp only [hd] at ok
  exact ok.1

/-- The running unit's step keeps the invariant. -/
theorem Inv.unitAction {s t : State} (hi : Inv s) (hb : s.blk = .busy) (h : (unitAction s).result = .next t) :
    Inv t := by
  cases hop : s.op with
  | decompress => exact hi.decoderStep hop (hi.decoder hb hop) (decoderStep_of_unitAction hop h)
  | compress =>
    have ok := hi.encoder hb hop
    exact hi.encoderStep hop ok (encoderStep_of_unitAction hop hi.cfg ok.byteLeft h)

/-- Settles O48: in IDLE a step waits or starts a command, in BUSY it is a step of the running unit, and each keeps
the invariant. -/
theorem everyStepKeepsTheInvariant : Obligations.EveryStepKeepsTheInvariant := by
  intro s t hi h
  obtain ⟨rest, ⟨-, rfl⟩ | ⟨-, o, m, input, rfl⟩ | ⟨hb, hu⟩⟩ := step_next_cases h
  · exact hi.withHost rest
  · exact (hi.withHost rest).started o m input
  · exact (hi.withHost rest).unitAction hb hu

end Sys2Proof.Machine
end

section
/-! SUPPORT. Descriptors, the unit operations, the index, the host port, the start of a command, the reads of the result
and the input cursor: the statements of 10_state.md beside the invariant. -/

namespace Sys2Proof.Machine

/-! ### Descriptors -/

theorem decodeCommand_encodeCommand (cfg : Config) {i : Instr} {c : Command} (h : encodeCommand i = some c) :
    decodeCommand cfg c = .ok i := by
  cases i with
  | compress m input => cases h; cases m <;> rfl
  | decompress m input => cases h; cases m <;> rfl
  | _ => cases h

theorem decodeMode_ok {cfg : Config} {code : Option Nat} {m : Mode} (h : decodeMode cfg code = .ok m) :
    code = none ∨ code = some 0 ∨ code = some 1 := by
  unfold decodeMode at h
  split at h
  · exact .inl rfl
  · exact .inr (.inl rfl)
  · exact .inr (.inr rfl)
  · cases h

/-- Settles O7: the codes of a descriptor that decodes are those `decodeCommand` and `decodeMode` list. -/
theorem descriptorCodesNameTheCommands : Obligations.DescriptorCodesNameTheCommands := by
  intro cfg input a
  refine ⟨fun i c => decodeCommand_encodeCommand cfg, rfl, rfl, fun op mode i h => ?_⟩
  obtain ⟨m, hm, hop⟩ := decodeCommand_ok h
  exact ⟨hop.imp And.left And.left, decodeMode_ok hm⟩

/-! ### Unit operations -/

theorem returns_frame {r : UnitResult} {s t : State} (h : returns r s = .next t) : t = { s with ures := t.ures } := by
  rw [returns_next_iff.1 h]

theorem onToken_frame {tok : Token} {r : UnitResult} {s t : State} (h : onToken tok r s = .next t) :
    t = { s with ures := t.ures } := by
  rw [(onToken_next_iff.1 h).2]

/-- A unit operation that answers a state has written the result port alone (10_state.md R39). -/
theorem unitOperation_frame {i : Instr} (hi : isUnitOperation i = true) {s t : State} (h : exec i s = .next t) :
    t = { s with ures := t.ures } := by
  cases i with
  | mkLit b => exact returns_frame h
  | mkMatch L D => exact returns_frame h
  | kind tok => exact onToken_frame h
  | pack tok => exact onToken_frame h
  | unpackLit b0 => exact returns_frame h
  | unpackMatch b0 b1 => exact returns_frame h
  | dlen tok => exact onToken_frame h
  | writeHeader size =>
    simp only [exec, execWriteHeader] at h
    split at h <;> exact returns_frame h
  | readHeader bytes =>
    simp only [exec, execReadHeader] at h
    split at h <;> exact returns_frame h
  | flagByte ts =>
    simp only [exec, execFlagByte] at h
    split at h
    · exact returns_frame h
    · cases h
  | writeTokens ts =>
    simp only [exec, execWriteTokens] at h
    split at h
    · exact returns_frame h
    · cases h
  | readTokens bytes expected =>
    simp only [exec, execReadTokens] at h
    split at h <;> exact returns_frame h
  | findMatch input p n =>
    simp only [exec, execFindMatch] at h
    split at h
    · split at h <;> exact returns_frame h
    · cases h
  | chooseGreedy input p n => exact onChoice_next h
  | chooseLazy input p n => exact onChoice_next h
  | _ => cases hi

theorem onToken_of_valid {tok : Token} (h : tok.valid = true) (r : UnitResult) (s : State) :
    onToken tok r s = .next { s with ures := r } := by
  rw [onToken, if_pos h]; rfl

theorem onChoice_ok {input : ByteSeq} {p : Nat} {c : Token} (hp : p < input.length) (s : State) :
    onChoice input p input.length (.ok (some c)) s = .next { s with ures := .token c } := by
  rw [onChoice, if_pos ⟨rfl, hp⟩]; rfl

/-- On well-formed operands, under a legal configuration, a unit operation answers its result. -/
theorem unitOperation_answers {i : Instr} (hi : isUnitOperation i = true) (hwf : i.wf = true) {s : State}
    (hcfg : s.cfg.wf) : ∃ r, exec i s = .next { s with ures := r } := by
  cases i with
  | mkLit b => exact ⟨_, rfl⟩
  | mkMatch L D => exact ⟨_, rfl⟩
  | kind tok => exact ⟨_, onToken_of_valid hwf _ s⟩
  | pack tok => exact ⟨_, onToken_of_valid hwf _ s⟩
  | unpackLit b0 => exact ⟨_, rfl⟩
  | unpackMatch b0 b1 => exact ⟨_, rfl⟩
  | dlen tok => exact ⟨_, onToken_of_valid hwf _ s⟩
  | writeHeader size =>
    simp only [exec, execWriteHeader]
    split <;> exact ⟨_, rfl⟩
  | readHeader bytes =>
    simp only [exec, execReadHeader]
    split <;> exact ⟨_, rfl⟩
  | flagByte ts =>
    simp only [Instr.wf, Bool.and_eq_true, decide_eq_true_eq] at hwf
    exact ⟨_, if_pos ⟨hwf.1.1, hwf.1.2, hwf.2⟩⟩
  | writeTokens ts => exact ⟨_, if_pos hwf⟩
  | readTokens bytes expected =>
    simp only [exec, execReadTokens]
    split <;> exact ⟨_, rfl⟩
  | findMatch input p n =>
    simp only [exec, execFindMatch, if_pos (of_decide_eq_true hwf)]
    split <;> exact ⟨_, rfl⟩
  | chooseGreedy input p n =>
    obtain ⟨rfl, hp⟩ := of_decide_eq_true hwf
    obtain ⟨c, hc, -⟩ := chooseGreedy_ok hcfg s.idx hp
    exact ⟨.token c, by rw [exec, execChooseGreedy, hc, onChoice_ok hp]⟩
  | chooseLazy input p n =>
    obtain ⟨rfl, hp⟩ := of_decide_eq_true hwf
    obtain ⟨c, hc, -⟩ := chooseLazy_ok hcfg s.idx hp
    exact ⟨.token c, by rw [exec, execChooseLazy, hc, onChoice_ok hp]⟩
  | _ => cases hi

/-- Settles O24, operation by operation: each answers through `returns`, and the two choices always have a token. -/
theorem unitOperationsWriteOnlyTheirResult : Obligations.UnitOperationsWriteOnlyTheirResult :=
  fun _ _ hi => ⟨fun _ => unitOperation_frame hi, fun hwf hcfg => unitOperation_answers hi hwf hcfg⟩

/-! ### The index -/

theorem groupOutIfFull_idx_irrelevant (s : State) (other : List Nat) :
    groupOutIfFull { s with idx := other } = { groupOutIfFull s with idx := other } := by
  by_cases h : s.grp.length = 8
  · rw [groupOutIfFull, groupOutIfFull, if_pos h, if_pos h]; rfl
  · rw [groupOutIfFull, groupOutIfFull, if_neg h, if_neg h]

/-- Behind the choice, the index a parse step starts from reaches the index alone (10_state.md R38). -/
theorem parsed_idx_irrelevant (tok : Token) (s : State) (other : List Nat) :
    endOfInput (groupOutIfFull (pushToken tok { s with idx := other })) =
      { endOfInput (groupOutIfFull (pushToken tok s)) with idx := other ++ List.range' s.p (dlen tok) } :=
  congrArg endOfInput (groupOutIfFull_idx_irrelevant (pushToken tok s) (other ++ List.range' s.p (dlen tok)))

/-- Settles O40: the choice does not read the index, and the rest of the step only writes it. -/
theorem indexContentReachesNoOutput : Obligations.IndexContentReachesNoOutput := by
  intro s t other hex h
  obtain ⟨hin, hcases⟩ := execEncParse_next_iff.1 h
  rw [choose_idx_irrelevant hex s.emode s.idx other] at hcases
  have hin' : ({ s with idx := other } : State).encoderIn .parse = true := hin
  obtain ⟨e, hc, rfl⟩ | ⟨c, e, hc, hk, rfl⟩ | ⟨c, tok, hc, hk, rfl⟩ := hcases
  · exact ⟨other, execEncParse_next_iff.2 ⟨hin', .inl ⟨e, hc, rfl⟩⟩⟩
  · exact ⟨other, execEncParse_next_iff.2 ⟨hin', .inr (.inl ⟨c, e, hc, hk, rfl⟩)⟩⟩
  · exact ⟨_, execEncParse_next_iff.2
      ⟨hin', .inr (.inr ⟨c, tok, hc, hk, (parsed_idx_irrelevant tok s other).symm⟩)⟩⟩

/-! ### The host port -/

theorem nextAction_idle_issue {s : State} {c : Command} {rest : List HostAction} (hb : s.blk = .idle)
    (hh : s.host = .issue c :: rest) : nextAction s = issueAction c { s with host := rest } := by
  simp [nextAction, hb, idleAction, hh]

theorem nextAction_busy_issue {s : State} {c : Command} {rest : List HostAction} (hb : s.blk = .busy)
    (hh : s.host = .issue c :: rest) : nextAction s = .refuse .commandWhileBusy := by
  simp [nextAction, hb, busyAction, hh]

theorem nextAction_busy_writeInput {s : State} {k : Nat} {b : Byte} {rest : List HostAction} (hb : s.blk = .busy)
    (hh : s.host = .writeInput k b :: rest) : nextAction s = .refuse .inputChanged := by
  simp [nextAction, hb, busyAction, hh]

theorem issueAction_of_aliased {c : Command} (ha : c.aliasesOutput = true) (s : State) :
    issueAction c s = .refuse .bufferAliased := if_pos ha

theorem issueAction_of_ok (s : State) {c : Command} {i : Instr} (ha : c.aliasesOutput = false)
    (h : decodeCommand s.cfg c = .ok i) : issueAction c s = .run i s := by
  simp [issueAction, ha, h]

theorem issueAction_of_unknownOp (s : State) {c : Command} (ha : c.aliasesOutput = false)
    (h : decodeCommand s.cfg c = .error .unknownOp) : issueAction c s = .refuse .unknownOp := by
  simp [issueAction, ha, h]

theorem issueAction_of_unknownMode (s : State) {c : Command} (ha : c.aliasesOutput = false)
    (h : decodeCommand s.cfg c = .error .unknownMode) : issueAction c s = .refuse .unknownMode := by
  simp [issueAction, ha, h]

/-- Settles O42: each clause names the action the host port selects. -/
theorem hostPortIssuesOrRefuses : Obligations.HostPortIssuesOrRefuses := by
  intro s c k b rest
  simp only [step_eq_result]
  refine ⟨fun hb hh ha => ?_, fun hb hh ha => ?_, fun hb hh => ?_, fun hb hh => ?_, fun hb hh => ?_⟩
  · rw [nextAction_idle_issue hb hh]
    refine ⟨fun i hi => ?_, fun he => ?_, fun he => ?_⟩
    · rw [issueAction_of_ok { s with host := rest } ha hi]; rfl
    · rw [issueAction_of_unknownOp { s with host := rest } ha he]; rfl
    · rw [issueAction_of_unknownMode { s with host := rest } ha he]; rfl
  · rw [nextAction_idle_issue hb hh, issueAction_of_aliased ha]; rfl
  · rw [nextAction_busy_issue hb hh]; rfl
  · rw [nextAction_busy_writeInput hb hh]; rfl
  · rw [nextAction_idle hb hh]; rfl

/-! ### The start of a command -/

/-- Settles O41: both commands answer `started`, whose registers are the initial values. -/
theorem issuedCommandInitialisesTheUnits : Obligations.IssuedCommandInitialisesTheUnits := by
  intro s m input hb hl
  refine ⟨started .compress m input s, started .decompress m input s,
    issue_next_iff.2 ⟨hb, hl, rfl⟩, issue_next_iff.2 ⟨hb, hl, rfl⟩, rfl, rfl, ?_⟩
  rintro t (rfl | rfl) <;> and_intros <;> rfl

/-- A started command keeps of the state before it the configuration and the registers no command writes at its
start. -/
theorem started_eq_of_cfg {s1 s2 : State} (hcfg : s1.cfg = s2.cfg) (o : Op) (m : Mode) (input : ByteSeq) :
    started o m input s1 =
      { started o m input s2 with
        resultValid := s1.resultValid, status := s1.status, output := s1.output, ures := s1.ures, host := s1.host } := by
  simp only [started, initUnits, hcfg]

/-- Settles O46: both answers are `started`, which of the state before it reads the configuration alone. -/
theorem nothingSurvivesIntoTheNextCommand : Obligations.NothingSurvivesIntoTheNextCommand := by
  rintro s1 s2 t1 t2 m input i (rfl | rfl) hcfg h1 h2
  · obtain ⟨-, -, rfl⟩ := issue_next_iff.1 h1
    obtain ⟨-, -, rfl⟩ := issue_next_iff.1 h2
    exact started_eq_of_cfg hcfg .compress m input
  · obtain ⟨-, -, rfl⟩ := issue_next_iff.1 h1
    obtain ⟨-, -, rfl⟩ := issue_next_iff.1 h2
    exact started_eq_of_cfg hcfg .decompress m input

/-! ### Reads of the result -/

/-- Settles O45: the reads' conditions, and no command seen at reset. -/
theorem outputReadableOnlyAfterOk : Obligations.OutputReadableOnlyAfterOk := by
  refine ⟨fun s => ⟨fun hv hs => if_pos ⟨hv, hs⟩, fun h => if_neg ?_, fun hv => if_neg (by simp [hv])⟩, rfl, rfl,
    fun r => readReg_error_iff.2 ⟨written_of_not_commandSeen rfl r, rfl⟩⟩
  rintro ⟨hv, hs⟩
  obtain hv' | hs' := h
  · rw [hv] at hv'; cases hv'
  · exact hs' hs

/-! ### The input cursor -/

/-- A copy step reads no input, at its boundary neither (42_lz77_decoder.md R157, R158). -/
theorem copyStep_ip (s : State) (b : Byte) :
    (if s.crem = 1 then boundary (copyByte b s) else copyByte b s).ip = s.ip := by
  split <;> rfl

theorem complete_ip {s t : State} (h : complete s = some t) : t.ip = s.ip := by
  obtain ⟨-, -, rfl⟩ | ⟨-, -, rfl⟩ | ⟨-, -, rfl⟩ | ⟨-, -, rfl⟩ := complete_some_iff.1 h <;> rfl

/-- Settles O51: what each decoder step writes to `ip`; the invariant gives `ip = 0` at the header. -/
theorem inputCursorNeverMovesBackward : Obligations.InputCursorNeverMovesBackward := by
  intro s t hi hb hop hh h
  have ok := hi.decoder hb hop
  rw [step_eq_result, nextAction_busy hb hh] at h
  cases decoderStep_of_unitAction hop h with
  | header size phase fetched =>
    simp only [State.decoderOk, phase] at ok
    exact .inr (.inl ⟨phase, by simp [ok.1]⟩)
  | flagByte f phase fetched => exact .inr (.inr (.inl ⟨phase, rfl⟩))
  | literal b due fetched =>
    obtain ⟨-, -, phase, -, kind⟩ := (tokenDue_iff s false).1 due
    exact .inr (.inr (.inr (.inl ⟨phase, kind, rfl⟩)))
  | matchFails e due fetched =>
    obtain ⟨-, -, phase, -, kind⟩ := (tokenDue_iff s true).1 due
    exact .inr (.inr (.inr (.inr ⟨phase, kind, rfl⟩)))
  | matchStarts L D due fetched valid distance length =>
    obtain ⟨-, -, phase, -, kind⟩ := (tokenDue_iff s true).1 due
    exact .inr (.inr (.inr (.inr ⟨phase, kind, rfl⟩)))
  | copy b phase left source => exact .inl (copyStep_ip s b)
  | fetchFails e sl reading => exact .inl rfl
  | completes t ended => exact .inl (complete_ip ended)

end Sys2Proof.Machine
end

section
/-! SUPPORT. The byte spaces (20_memory.md R50 to R54): which instructions read outside one, what the decoder's
instructions leave as it was, and how a command's steps extend its outputs. -/

namespace Sys2Proof.Machine

/-! ### Faults -/

theorem outReadBack_eq_none_iff {s : State} {d : Nat} : s.outReadBack d = none ↔ d = 0 ∨ s.out.length < d := by
  rw [← Option.not_isSome_iff_eq_none, outReadBack_isSome_iff]
  omega

/-- COPY faults exactly where a byte is left to copy and its source does not exist (R53). -/
theorem execCopy_fault_iff {s : State} {f : Fault} :
    execCopy s = .fault f ↔ s.decoderIn .copying = true ∧ s.crem ≠ 0 ∧ s.outReadBack s.cdist.toNat = none ∧
      f = .outReadOutOfRange := by
  unfold execCopy
  by_cases h : s.decoderIn .copying = true ∧ s.crem ≠ 0
  · rw [if_pos (by rw [h.1, Bool.true_and]; exact decide_eq_true h.2)]
    cases s.outReadBack s.cdist.toNat with
    | none => simp only [h, Host.Outcome.fault.injEq, true_and, ne_eq, not_false_eq_true, eq_comm]
    | some b => simp
  · rw [if_neg (by rw [Bool.and_eq_true, decide_eq_true_iff]; exact h)]
    simp only [reduceCtorEq, false_iff]
    exact fun ⟨hin, hleft, _⟩ => h ⟨hin, hleft⟩

/-- ENC_PARSE faults only in the parse phase, where the policy finds no byte for its literal (R52). -/
theorem execEncParse_fault {s : State} {f : Fault} (h : execEncParse s = .fault f) :
    s.encoderIn .parse = true ∧ choose s.cfg s.emode s.idx s.inp s.p s.n = .ok none := by
  unfold execEncParse at h
  split at h
  · next hin =>
    split at h
    · cases h
    · next hc => exact ⟨hin, hc⟩
    · split at h <;> cases h
  · cases h

theorem issue_ne_fault (o : Op) (m : Mode) (input : ByteSeq) (s : State) (f : Fault) : issue o m input s ≠ .fault f := by
  unfold issue
  split
  · simp
  · split <;> simp

/-- Everything that can fault: COPY, ENC_PARSE, and operations the machine does not step through (R52, R53). -/
theorem exec_fault_cases {i : Instr} {s : State} {f : Fault} (h : exec i s = .fault f) :
    (i = .copy ∧ execCopy s = .fault f) ∨ (i = .encParse ∧ execEncParse s = .fault f) ∨ isUnitOperation i = true := by
  cases i with
  | hdr size => simp only [exec, execHdr] at h; split at h <;> cases h
  | flags f => simp only [exec, execFlags] at h; split at h <;> cases h
  | lit b => simp only [exec, execLit] at h; split at h <;> cases h
  | matchRef L D =>
    simp only [exec, execMatchRef] at h
    split at h
    · split at h
      · split at h
        · cases h
        · split at h <;> cases h
      · cases h
    · cases h
  | copy => exact .inl ⟨rfl, h⟩
  | encStart =>
    simp only [exec, execEncStart] at h
    split at h
    · split at h <;> cases h
    · cases h
  | encParse => exact .inr (.inl ⟨rfl, h⟩)
  | encFlush => simp only [exec, execEncFlush] at h; split at h <;> cases h
  | compress m input => exact absurd h (issue_ne_fault .compress m input s f)
  | decompress m input => exact absurd h (issue_ne_fault .decompress m input s f)
  | _ => exact .inr (.inr rfl)

/-- Under the invariant the copy's source exists (R53), and so does the byte to parse (R52). -/
theorem Inv.exec_ne_fault {s : State} (hi : Inv s) {i : Instr} (hunit : isUnitOperation i = false) (f : Fault) :
    exec i s ≠ .fault f := by
  intro h
  obtain ⟨-, hcopy⟩ | ⟨-, hparse⟩ | hunit' := exec_fault_cases h
  · obtain ⟨hin, -, hnone, -⟩ := execCopy_fault_iff.1 hcopy
    obtain ⟨hb, hop, hd⟩ := (decoderIn_iff s .copying).1 hin
    have ok := hi.decoder hb hop
    simp only [State.decoderOk, hd] at ok
    have := outReadBack_eq_none_iff.1 hnone
    omega
  · obtain ⟨hin, hnone⟩ := execEncParse_fault hparse
    obtain ⟨hb, hop, hd⟩ := (encoderIn_iff s .parse).1 hin
    obtain ⟨c, hc, -⟩ := choose_ok hi.cfg s.emode s.idx ((hi.encoder hb hop).byteLeft hd)
    cases hc.symm.trans hnone
  · rw [hunit] at hunit'
    cases hunit'

/-! ### What a step runs -/

theorem decode_isUnitOperation {tag : Byte} {sl : Slot} {bytes rest : ByteSeq} {i : Instr}
    (h : decode tag sl bytes = .ok (i, rest)) : isUnitOperation i = false := by
  match sl with
  | .header => obtain ⟨-, size, rfl⟩ := decode_header_ok h; rfl
  | .flagByte => obtain ⟨-, f, rfl⟩ := decode_flagByte_ok h; rfl
  | .token false => obtain ⟨-, b, rfl⟩ := decode_literal_ok h; rfl
  | .token true => obtain ⟨-, L, D, rfl⟩ := decode_match_ok h; rfl

theorem fetchElement_run {sl : Slot} {s s' : State} {i : Instr} (h : fetchElement sl s = .run i s') :
    s' = s ∧ isUnitOperation i = false := by
  obtain ⟨j, rest, hdec, hrun⟩ | ⟨r, -, hsettle⟩ := fetchElement_eq sl s
  · cases hrun.symm.trans h
    exact ⟨rfl, decode_isUnitOperation hdec⟩
  · cases hsettle.symm.trans h

theorem completeAction_ne_run (s s' : State) (i : Instr) : completeAction s ≠ .run i s' := by
  unfold completeAction
  split <;> simp

/-- A running unit runs a stream element or a step of its own, on the state as it is. -/
theorem unitAction_run {s s' : State} {i : Instr} (h : unitAction s = .run i s') :
    s' = s ∧ isUnitOperation i = false := by
  unfold unitAction at h
  split at h
  · unfold decoderAction at h
    split at h
    · exact fetchElement_run h
    · cases h; exact ⟨rfl, rfl⟩
    · exact absurd h (completeAction_ne_run s s' i)
  · unfold encoderAction at h
    split at h
    · cases h; exact ⟨rfl, rfl⟩
    · cases h; exact ⟨rfl, rfl⟩
    · cases h; exact ⟨rfl, rfl⟩
    · exact absurd h (completeAction_ne_run s s' i)
    · exact absurd h (completeAction_ne_run s s' i)

theorem issueAction_run {c : Command} {s s' : State} {i : Instr} (h : issueAction c s = .run i s') :
    s' = s ∧ isUnitOperation i = false := by
  unfold issueAction at h
  split at h
  · cases h
  · split at h
    · next hdec =>
      cases h
      obtain ⟨m, -, ⟨-, rfl⟩ | ⟨-, rfl⟩⟩ := decodeCommand_ok hdec
      · exact ⟨rfl, rfl⟩
      · exact ⟨rfl, rfl⟩
    · cases h
    · cases h

/-- A step runs no operation that is executed only by itself, and takes a host action off the list at most. -/
theorem nextAction_run {s s' : State} {i : Instr} (h : nextAction s = .run i s') :
    ∃ rest, s' = { s with host := rest } ∧ isUnitOperation i = false := by
  unfold nextAction at h
  split at h
  · unfold idleAction at h
    split at h
    case h_2 c rest _ => exact ⟨rest, issueAction_run h⟩
    all_goals cases h
  · unfold busyAction at h
    split at h
    case h_2 | h_3 => cases h
    all_goals exact ⟨_, unitAction_run h⟩

/-- Settles O49: a step faults only where the instruction it runs does, and under the invariant none does. -/
theorem noStepFaultsUnderTheInvariant : Obligations.NoStepFaultsUnderTheInvariant := by
  intro s f hi
  rw [step_eq_result]
  cases hact : nextAction s with
  | run i s' =>
    obtain ⟨rest, rfl, hunit⟩ := nextAction_run hact
    exact (hi.withHost rest).exec_ne_fault hunit f
  | settle s' => simp [Action.result]
  | refuse r => simp [Action.result]

/-- Settles O30: a distance of 0 or past the start of the output names no source byte. -/
theorem copyFromNowhereFaults : Obligations.CopyFromNowhereFaults := by
  intro s hb hop hd hleft hsrc
  refine execCopy_fault_iff.2 ⟨(decoderIn_iff s .copying).2 ⟨hb, hop, hd⟩, hleft, outReadBack_eq_none_iff.2 ?_, rfl⟩
  exact hsrc.imp_left fun h0 => by simp [h0]

/-! ### Frame of the decoder's instructions -/

theorem outRead_of_append {s t : State} {b : Byte} (h : t.out = s.out ++ [b]) {a : Nat} (ha : a ≠ s.out.length) :
    t.outRead a = s.outRead a :=
  (congrArg (·[a]?) h).trans (outRead_outAppend_of_ne s b ha)

/-- The copy step, whole: the byte is appended, and only the phase depends on the bytes left (R157, R158). -/
theorem copyStep_eq (s : State) (b : Byte) :
    (if s.crem = 1 then boundary (copyByte b s) else copyByte b s) =
      { copyByte b s with dph := if s.crem = 1 then (boundary (copyByte b s)).dph else s.dph } := by
  split <;> rfl

/-- Settles O34, instruction by instruction, from what each writes where it answers a state. -/
theorem decoderStepsFrame : Obligations.DecoderStepsFrame := by
  rintro s t size f b L D i (rfl | rfl | rfl | rfl | rfl) h
  · obtain ⟨-, rfl⟩ := execHdr_next_iff.1 h
    exact ⟨rfl, by simp [State.outRead, State.inRead]⟩
  · obtain ⟨-, rfl⟩ := execFlags_next_iff.1 h
    exact ⟨rfl, by simp [State.outRead, State.inRead]⟩
  · obtain ⟨-, rfl⟩ := execLit_next_iff.1 h
    refine ⟨rfl, fun a ha => outRead_of_append rfl fun he => ha (congrArg some he.symm), ?_⟩
    simp [State.inRead]
  · obtain ⟨-, -, ⟨-, rfl⟩ | ⟨-, -, rfl⟩ | ⟨-, -, rfl⟩⟩ := execMatchRef_next_iff.1 h
    all_goals exact ⟨rfl, by simp [State.outRead, State.inRead]⟩
  · obtain ⟨-, -, c, -, rfl⟩ := execCopy_next_iff.1 h
    rw [copyStep_eq]
    refine ⟨rfl, fun a ha => outRead_of_append rfl fun he => ha (congrArg some he.symm), ?_⟩
    simp [State.inRead]

/-! ### The buffers during a command -/

/-- The input, the configuration and the descriptor are as they were. -/
def KeepsCommand (s t : State) : Prop :=
  t.inp = s.inp ∧ t.cfg = s.cfg ∧ t.op = s.op ∧ t.mode = s.mode ∧ t.emode = s.emode

theorem complete_keepsCommand {s t : State} (h : complete s = some t) :
    KeepsCommand s t ∧ t.out = s.out ∧ t.eout = s.eout := by
  obtain ⟨-, -, rfl⟩ | ⟨-, -, rfl⟩ | ⟨-, -, rfl⟩ | ⟨-, -, rfl⟩ := complete_some_iff.1 h
  all_goals exact ⟨⟨rfl, rfl, rfl, rfl, rfl⟩, rfl, rfl⟩

theorem DecoderStep.keepsCommand {s t : State} (h : DecoderStep s t) : KeepsCommand s t ∧ t.eout = s.eout := by
  cases h with
  | copy b phase left source => rw [copyStep_eq]; exact ⟨⟨rfl, rfl, rfl, rfl, rfl⟩, rfl⟩
  | completes t ended =>
    obtain ⟨hkeeps, -, heout⟩ := complete_keepsCommand ended
    exact ⟨hkeeps, heout⟩
  | _ => exact ⟨⟨rfl, rfl, rfl, rfl, rfl⟩, rfl⟩

/-- A decoder step appends one byte or none (R54, 42_lz77_decoder.md R151). -/
theorem DecoderStep.out_eq {s t : State} (h : DecoderStep s t) : t.out = s.out ∨ ∃ b, t.out = s.out ++ [b] := by
  cases h with
  | literal b due fetched => exact .inr ⟨b, rfl⟩
  | copy b phase left source => rw [copyStep_eq]; exact .inr ⟨b, rfl⟩
  | completes t ended => exact .inl (complete_keepsCommand ended).2.1
  | _ => exact .inl rfl

theorem EncoderStep.keepsCommand {s t : State} (h : EncoderStep s t) : KeepsCommand s t ∧ t.out = s.out := by
  cases h with
  | parse tok phase fits => exact ⟨by simp [KeepsCommand], by simp⟩
  | completes t ended =>
    obtain ⟨hkeeps, hout, -⟩ := complete_keepsCommand ended
    exact ⟨hkeeps, hout⟩
  | _ => exact ⟨⟨rfl, rfl, rfl, rfl, rfl⟩, rfl⟩

/-- An encoder step emits at the end of its output (R54); the header is emitted to an empty one. -/
theorem EncoderStep.prefix_eout {s t : State} (ok : s.encoderOk) (h : EncoderStep s t) : s.eout <+: t.eout := by
  cases h with
  | start phase size =>
    obtain ⟨-, ok⟩ := ok
    simp only [phase] at ok
    obtain ⟨-, -, hempty, -⟩ := ok
    rw [hempty]
    exact List.nil_prefix
  | tooLarge phase size => exact List.prefix_rfl
  | parse tok phase fits => exact prefix_groupOutIfFull_eout (pushToken tok s)
  | flush phase => exact List.prefix_append ..
  | completes t ended => rw [(complete_keepsCommand ended).2.2]

/-- A step in BUSY is a step of the running unit, which writes only its own output, at the end. -/
theorem Inv.unitAction_appends {s t : State} (hi : Inv s) (hb : s.blk = .busy)
    (h : (Machine.unitAction s).result = .next t) :
    KeepsCommand s t ∧ s.eout <+: t.eout ∧ (t.out = s.out ∨ ∃ b, t.out = s.out ++ [b]) := by
  cases hop : s.op with
  | decompress =>
    have hstep := decoderStep_of_unitAction hop h
    obtain ⟨hkeeps, heout⟩ := hstep.keepsCommand
    exact ⟨hkeeps, heout ▸ List.prefix_rfl, hstep.out_eq⟩
  | compress =>
    have ok := hi.encoder hb hop
    have hstep := encoderStep_of_unitAction hop hi.cfg ok.byteLeft h
    obtain ⟨hkeeps, hout⟩ := hstep.keepsCommand
    exact ⟨hkeeps, hstep.prefix_eout ok, .inl hout⟩

/-- Settles O52: a step in BUSY is a step of the running unit, whatever host action it passes. -/
theorem buffersAreAppendOnlyDuringACommand : Obligations.BuffersAreAppendOnlyDuringACommand := by
  intro s t hi hb h
  obtain ⟨rest, ⟨hidle, -⟩ | ⟨hidle, -⟩ | ⟨-, hu⟩⟩ := step_next_cases h
  · cases hb.symm.trans hidle
  · cases hb.symm.trans hidle
  obtain ⟨⟨hinp, hcfg, hop, hmode, hemode⟩, heout, hout⟩ := (hi.withHost rest).unitAction_appends hb hu
  have hgrow : s.out <+: t.out ∧ t.out.length ≤ s.out.length + 1 := by
    obtain hnone | ⟨b, hbyte⟩ := hout
    · simp [hnone]
    · simp [hbyte]
  exact ⟨hinp, hgrow.1, heout, hgrow.2, hcfg, hop, hmode, hemode⟩

end Sys2Proof.Machine
end

section
/-! SUPPORT. The wire format (30_encoding.md): the fields of a header and of a match payload as numbers, what each slot
decodes to, and the bytes a token list takes. -/

namespace Sys2Proof.Machine

/-! ### Fields as numbers -/

/-- The size field in numbers (R73). -/
theorem headerSize_toNat (b1 b2 b3 : Byte) :
    (headerSize b1 b2 b3).toNat = b1.toNat + 256 * b2.toNat + 65536 * b3.toNat := by
  have h1 := b1.isLt
  have h2 := b2.isLt
  have h3 := b3.isLt
  have low : b2.toNat <<< 8 + b1.toNat = b2.toNat <<< 8 ||| b1.toNat := Nat.shiftLeft_add_eq_or_of_lt h1 _
  have all : b3.toNat <<< 16 + (b2.toNat <<< 8 + b1.toNat) = b3.toNat <<< 16 ||| (b2.toNat <<< 8 + b1.toNat) :=
    Nat.shiftLeft_add_eq_or_of_lt (by omega) _
  simp only [headerSize, BitVec.toNat_or, BitVec.toNat_shiftLeft, BitVec.toNat_setWidth]
  rw [Nat.mod_eq_of_lt (by omega : b1.toNat < 2 ^ 24), Nat.mod_eq_of_lt (by omega : b2.toNat < 2 ^ 24),
    Nat.mod_eq_of_lt (by omega : b3.toNat < 2 ^ 24), Nat.mod_eq_of_lt (by omega : b2.toNat <<< 8 < 2 ^ 24),
    Nat.mod_eq_of_lt (by omega : b3.toNat <<< 16 < 2 ^ 24), Nat.or_comm b1.toNat, ← low, Nat.or_comm, ← all]
  omega

/-- The size field of the bytes of a size (R74). -/
theorem headerSize_of_size (size : Nat) :
    headerSize (BitVec.ofNat 8 (size &&& 0xFF)) (BitVec.ofNat 8 ((size >>> 8) &&& 0xFF))
      (BitVec.ofNat 8 ((size >>> 16) &&& 0xFF)) = BitVec.ofNat 24 size := by
  have byte (m : Nat) : m &&& 0xFF = m % 2 ^ 8 := Nat.and_two_pow_sub_one_eq_mod m 8
  apply BitVec.eq_of_toNat_eq
  simp only [headerSize_toNat, byte, BitVec.toNat_ofNat]
  omega

/-- The length field in numbers (R79). -/
theorem payloadLength_eq (b0 : Byte) : payloadLength b0 = b0.toNat / 16 + 3 := by
  rw [payloadLength, Nat.shiftRight_eq_div_pow]

/-- The distance field in numbers (R79). -/
theorem payloadDistance_eq (b0 b1 : Byte) : payloadDistance b0 b1 = b0.toNat % 16 * 256 + b1.toNat + 1 := by
  have low : b0.toNat &&& 0x0F = b0.toNat % 2 ^ 4 := Nat.and_two_pow_sub_one_eq_mod b0.toNat 4
  rw [payloadDistance, low, ← Nat.shiftLeft_add_eq_or_of_lt b1.isLt]
  omega

/-- The biases put every payload in the legal ranges (R80). -/
theorem valid_payload (b0 b1 : Byte) : (Token.backref (payloadLength b0) (payloadDistance b0 b1)).valid = true := by
  have h0 := b0.isLt
  have h1 := b1.isLt
  rw [valid_backref_iff, payloadLength_eq, payloadDistance_eq]
  omega

/-- The payload of a valid match carries its length and its distance (R78, R79). -/
theorem packToken_backref {L D : Nat} (h : (Token.backref L D).valid = true) :
    ∃ b0 b1, packToken (.backref L D) = [b0, b1] ∧ payloadLength b0 = L ∧ payloadDistance b0 b1 = D := by
  obtain ⟨hL3, hL18, hD1, hD4096⟩ := (valid_backref_iff L D).1 h
  have high : (D - 1) >>> 8 = (D - 1) / 2 ^ 8 := Nat.shiftRight_eq_div_pow ..
  have low : (D - 1) &&& 0xFF = (D - 1) % 2 ^ 8 := Nat.and_two_pow_sub_one_eq_mod (D - 1) 8
  have first : (L - 3) <<< 4 + (D - 1) / 2 ^ 8 = (L - 3) <<< 4 ||| (D - 1) / 2 ^ 8 :=
    Nat.shiftLeft_add_eq_or_of_lt (by omega) _
  refine ⟨_, _, rfl, ?_, ?_⟩
  · rw [payloadLength_eq, BitVec.toNat_ofNat, high, ← first]
    omega
  · rw [payloadDistance_eq, BitVec.toNat_ofNat, BitVec.toNat_ofNat, high, low, ← first]
    omega

/-! ### Headers -/

theorem readHeader_of_ne {tag b : Byte} (h : b ≠ tag) (rest : ByteSeq) :
    readHeader tag (b :: rest) = .error .badMagic := if_pos h

theorem readHeader_tag (tag b1 b2 b3 : Byte) (rest : ByteSeq) :
    readHeader tag (tag :: b1 :: b2 :: b3 :: rest) = .ok (headerSize b1 b2 b3) := if_neg (not_not_intro rfl)

theorem readHeader_short {tag : Byte} {bytes : ByteSeq} (htag : ∀ b rest, bytes = b :: rest → b = tag)
    (hlen : bytes.length < 4) : readHeader tag bytes = .error .truncated := by
  match bytes, htag, hlen with
  | [], _, _ => rfl
  | [b], htag, _ | [b, _], htag, _ | [b, _, _], htag, _ => exact if_neg (not_not_intro (htag b _ rfl))

/-- Reading a written header gives the size, whatever follows (R73, R74). -/
theorem readHeader_headerBytes (tag : Byte) (size : Nat) (rest : ByteSeq) :
    readHeader tag (headerBytes tag size ++ rest) = .ok (BitVec.ofNat 24 size) := by
  rw [← headerSize_of_size]
  exact readHeader_tag ..

theorem decode_header_tag (tag b1 b2 b3 : Byte) (rest : ByteSeq) :
    decode tag .header (tag :: b1 :: b2 :: b3 :: rest) = .ok (.hdr (headerSize b1 b2 b3), rest) := by
  simp only [decode, readHeader_tag, List.drop_succ_cons, List.drop_zero]

/-- Decoding the header of a size gives the size, whatever follows. -/
theorem decode_headerBytes (tag : Byte) (size : BitVec 24) (rest : ByteSeq) :
    decode tag .header (headerBytes tag size.toNat ++ rest) = .ok (.hdr size, rest) := by
  simp only [headerBytes, List.cons_append, List.nil_append, decode_header_tag, headerSize_of_size,
    BitVec.ofNat_toNat, BitVec.setWidth_eq]

/-- Settles O2: the size field in numbers, and the header written for a size as the one it is read from. -/
theorem headerSizeFieldIsLittleEndian : Obligations.HeaderSizeFieldIsLittleEndian := by
  refine ⟨fun tag b1 b2 b3 rest => ?_, fun tag size => ⟨_, _, _, decode_headerBytes tag size []⟩⟩
  exact ⟨_, decode_header_tag tag b1 b2 b3 rest, headerSize_toNat b1 b2 b3⟩

/-- Settles O3: the payload's fields in numbers, and their biases. -/
theorem matchPayloadFieldsAreBiasedAndLegal : Obligations.MatchPayloadFieldsAreBiasedAndLegal :=
  fun _ b0 b1 _ => ⟨payloadLength b0, payloadDistance b0 b1, rfl, payloadLength_eq b0, payloadDistance_eq b0 b1,
    (valid_backref_iff _ _).1 (valid_payload b0 b1)⟩

/-! ### What a slot decodes to -/

/-- The slot is the header, and its first byte stands there and is not the tag (41_stream_framer.md R121). -/
def WrongTag (tag : Byte) (sl : Slot) (bytes : ByteSeq) : Prop :=
  sl = .header ∧ ∃ b rest, bytes = b :: rest ∧ b ≠ tag

theorem decode_of_wrongTag {tag : Byte} {sl : Slot} {bytes : ByteSeq} (h : WrongTag tag sl bytes) :
    decode tag sl bytes = .error .badMagic := by
  obtain ⟨rfl, b, rest, rfl, hb⟩ := h
  simp only [decode, readHeader_of_ne hb]

theorem decode_of_short {tag : Byte} {sl : Slot} {bytes : ByteSeq} (htag : ¬ WrongTag tag sl bytes)
    (hlen : bytes.length < sl.size) : decode tag sl bytes = .error .truncated := by
  match sl, bytes with
  | .header, bytes =>
    have htag : ∀ b rest, bytes = b :: rest → b = tag := fun b rest h =>
      Decidable.byContradiction fun hb => htag ⟨rfl, b, rest, h, hb⟩
    simp only [decode, readHeader_short htag hlen]
  | .flagByte, [] | .token false, [] | .token true, [] | .token true, [_] => rfl
  | .flagByte, _ :: _ | .token false, _ :: _ | .token true, _ :: _ :: _ =>
    simp [Slot.size] at hlen

theorem decode_of_enough {tag : Byte} {sl : Slot} {bytes : ByteSeq} (htag : ¬ WrongTag tag sl bytes)
    (hlen : sl.size ≤ bytes.length) : ∃ x, decode tag sl bytes = .ok x := by
  match sl, bytes with
  | .header, b0 :: b1 :: b2 :: b3 :: rest =>
    obtain rfl : b0 = tag := Decidable.byContradiction fun hb => htag ⟨rfl, b0, _, rfl, hb⟩
    exact ⟨_, decode_header_tag b0 b1 b2 b3 rest⟩
  | .flagByte, _ :: _ | .token false, _ :: _ | .token true, _ :: _ :: _ => exact ⟨_, rfl⟩
  | .header, [] | .header, [_] | .header, [_, _] | .header, [_, _, _] | .flagByte, [] | .token false, []
  | .token true, [] | .token true, [_] => simp [Slot.size] at hlen

/-- Settles O4: a wrong tag, else a missing byte, else an element; each answers its own way. -/
theorem decodeRejectsExactlyWrongTagAndMissingBytes : Obligations.DecodeRejectsExactlyWrongTagAndMissingBytes := by
  intro tag sl bytes
  change (_ ↔ WrongTag tag sl bytes) ∧ (_ ↔ _ ∧ ¬ WrongTag tag sl bytes)
  by_cases htag : WrongTag tag sl bytes
  · simp [decode_of_wrongTag htag, htag]
  · by_cases hlen : bytes.length < sl.size
    · simp [decode_of_short htag hlen, htag, hlen]
    · obtain ⟨x, hx⟩ := decode_of_enough htag (Nat.not_lt.1 hlen)
      simp [hx, htag, hlen]

/-! ### The bytes of a token list -/

theorem payloads_cons (t : Token) (ts : List Token) : payloads (t :: ts) = packToken t ++ payloads ts :=
  List.flatMap_cons

theorem payloads_append (ts us : List Token) : payloads (ts ++ us) = payloads ts ++ payloads us :=
  List.flatMap_append

/-- More fuel than groups changes nothing. -/
theorem writeGroups_fuel_irrelevant (f g : Nat) {ts : List Token} (hf : ts.length ≤ f) (hg : ts.length ≤ g) :
    writeGroups f ts = writeGroups g ts := by
  induction f generalizing g ts with
  | zero =>
    rw [List.length_eq_zero_iff.1 (Nat.le_zero.1 hf)]
    cases g <;> rfl
  | succ f ih =>
    match ts, g, hg with
    | [], 0, _ | [], _ + 1, _ => rfl
    | t :: ts, g + 1, hg =>
      have hdrop : ((t :: ts).drop 8).length ≤ ts.length := by simp
      rw [List.length_cons, Nat.add_le_add_iff_right] at hf hg
      rw [writeGroups, writeGroups, ih g (hdrop.trans hf) (hdrop.trans hg)]

@[simp] theorem writeTokens_nil : writeTokens [] = [] := rfl

/-- The first group, then the groups of the rest (41_stream_framer.md R123). -/
theorem writeTokens_of_ne_nil {ts : List Token} (h : ts ≠ []) :
    writeTokens ts = writeGroup (ts.take 8) ++ writeTokens (ts.drop 8) := by
  cases ts with
  | nil => exact absurd rfl h
  | cons t ts =>
    have hdrop : ((t :: ts).drop 8).length ≤ ts.length := by simp
    exact congrArg (writeGroup ((t :: ts).take 8) ++ ·) (writeGroups_fuel_irrelevant _ _ hdrop le_rfl)

/-- Induction over the groups of a token list. -/
theorem groups_induction {P : List Token → Prop} (nil : P []) (group : ∀ ts, ts ≠ [] → P (ts.drop 8) → P ts)
    (ts : List Token) : P ts := by
  by_cases h : ts = []
  · exact h ▸ nil
  · exact group ts h (groups_induction nil group (ts.drop 8))
termination_by ts.length
decreasing_by
  have := List.length_pos_iff.2 h
  rw [List.length_drop]
  omega

/-- One byte for a literal, two for a match (30_encoding.md R81). -/
theorem length_payloads (ts : List Token) : (payloads ts).length = ts.length + ts.countP kindBit := by
  induction ts with
  | nil => rfl
  | cons t ts ih =>
    rw [payloads_cons, List.length_append, ih, List.countP_cons, List.length_cons]
    cases t with
    | literal b => simp only [packToken, kindBit, List.length_singleton, Bool.false_eq_true, if_false]; omega
    | backref L D => simp only [packToken, kindBit, List.length_cons, List.length_nil, if_true]; omega

/-- One flag byte for each group of up to 8 tokens, beside the payloads (30_encoding.md R87). -/
theorem length_writeTokens (ts : List Token) :
    (writeTokens ts).length = (ts.length + 7) / 8 + (payloads ts).length := by
  induction ts using groups_induction with
  | nil => rfl
  | group ts h ih =>
    have hpos := List.length_pos_iff.2 h
    have hsplit := congrArg List.length (payloads_append (ts.take 8) (ts.drop 8))
    rw [List.take_append_drop, List.length_append] at hsplit
    rw [writeTokens_of_ne_nil h, List.length_append, ih, hsplit, writeGroup, List.length_cons, List.length_drop]
    omega

/-- Settles O16: the groups' flag bytes, and a second byte for each match. -/
theorem writtenTokensLength : Obligations.WrittenTokensLength := by
  intro ts
  have hle : ts.countP kindBit ≤ ts.length := List.countP_le_length
  rw [length_writeTokens, length_payloads]
  omega

end Sys2Proof.Machine
end

section
/-! SUPPORT. DECODE of an assembled stream (42_lz77_decoder.md R161, 30_encoding.md R91): the bytes a token list stands
for, the tokens of one group, the groups. -/

namespace Sys2Proof.Machine

/-! ### The output a token list describes -/

/-- The output after one token (30_encoding.md R82, 42_lz77_decoder.md R161). -/
def appendToken (out : ByteSeq) : Token → ByteSeq
  | .literal b => out ++ [b]
  | .backref L D => copyLoop D L out

/-- The output after a token list. -/
def expand (out : ByteSeq) (ts : List Token) : ByteSeq := ts.foldl appendToken out

@[simp] theorem expand_nil (out : ByteSeq) : expand out [] = out := rfl

@[simp] theorem expand_cons (out : ByteSeq) (t : Token) (ts : List Token) :
    expand out (t :: ts) = expand (appendToken out t) ts := rfl

theorem expand_append (out : ByteSeq) (ts us : List Token) : expand out (ts ++ us) = expand (expand out ts) us :=
  List.foldl_append

@[simp] theorem described_nil : described [] = 0 := rfl

@[simp] theorem described_cons (t : Token) (ts : List Token) : described (t :: ts) = dlen t + described ts :=
  List.sum_cons

theorem described_append (ts us : List Token) : described (ts ++ us) = described ts + described us := by
  simp [described]

theorem described_pos {ts : List Token} (hvalid : ts.all Token.valid = true) (hne : ts ≠ []) : 0 < described ts := by
  cases ts with
  | nil => exact absurd rfl hne
  | cons t ts =>
    have := one_le_dlen (List.all_eq_true.1 hvalid t List.mem_cons_self)
    rw [described_cons]
    omega

/-- A copy from inside the output appends its length (42_lz77_decoder.md R157). -/
theorem length_copyLoop {D : Nat} (L : Nat) {out : ByteSeq} (hD : 1 ≤ D) (hout : D ≤ out.length) :
    (copyLoop D L out).length = out.length + L := by
  induction L generalizing out with
  | zero => rfl
  | succ L ih =>
    have hsrc : out.length - D < out.length := by omega
    rw [copyLoop, List.getElem?_eq_getElem hsrc, ih (by simp; omega)]
    simp only [Option.toList_some, List.length_append, List.length_singleton]
    omega

/-- The tokens may follow `q` bytes of output: they are valid, their matches start inside the output, and they end
within `n` bytes (30_encoding.md R91). -/
structure TokensFit (n q : Nat) (ts : List Token) : Prop where
  valid : ts.all Token.valid = true
  within : q + described ts ≤ n
  distances : distancesFit q ts = true

theorem streamWellFormed_iff {n : Nat} {toks : List Token} :
    streamWellFormed n toks = true ↔ TokensFit n 0 toks ∧ described toks = n := by
  simp only [streamWellFormed, Bool.and_eq_true, decide_eq_true_eq]
  constructor
  · rintro ⟨⟨hvalid, hdesc⟩, hdist⟩
    exact ⟨⟨hvalid, by omega, hdist⟩, hdesc⟩
  · rintro ⟨⟨hvalid, -, hdist⟩, hdesc⟩
    exact ⟨⟨hvalid, hdesc⟩, hdist⟩

theorem distancesFit_append (q : Nat) (ts us : List Token) :
    distancesFit q (ts ++ us) = (distancesFit q ts && distancesFit (q + described ts) us) := by
  induction ts generalizing q with
  | nil => rfl
  | cons t ts ih =>
    cases t with
    | literal b => simp only [List.cons_append, distancesFit, ih, described_cons, dlen, Nat.add_assoc]
    | backref L D =>
      simp only [List.cons_append, distancesFit, ih, described_cons, dlen, Nat.add_assoc, Bool.and_assoc]

theorem tokensFit_append {n q : Nat} {ts us : List Token} :
    TokensFit n q (ts ++ us) ↔ TokensFit n q ts ∧ TokensFit n (q + described ts) us := by
  constructor
  · rintro ⟨hvalid, hwithin, hdist⟩
    rw [List.all_append, Bool.and_eq_true] at hvalid
    rw [described_append] at hwithin
    rw [distancesFit_append, Bool.and_eq_true] at hdist
    exact ⟨⟨hvalid.1, by omega, hdist.1⟩, ⟨hvalid.2, by omega, hdist.2⟩⟩
  · rintro ⟨⟨hvalid, -, hdist⟩, ⟨hvalid', hwithin, hdist'⟩⟩
    refine ⟨?_, ?_, ?_⟩
    · rw [List.all_append, hvalid, hvalid', Bool.and_true]
    · rw [described_append]; omega
    · rw [distancesFit_append, hdist, hdist', Bool.and_true]

theorem tokensFit_cons {n q : Nat} {t : Token} {ts : List Token} :
    TokensFit n q (t :: ts) ↔ TokensFit n q [t] ∧ TokensFit n (q + dlen t) ts :=
  tokensFit_append (ts := [t])

theorem tokensFit_literal_iff {n q : Nat} {b : Byte} : TokensFit n q [.literal b] ↔ q < n :=
  ⟨fun h => h.within, fun h => ⟨rfl, h, rfl⟩⟩

theorem tokensFit_backref_iff {n q L D : Nat} :
    TokensFit n q [.backref L D] ↔ (Token.backref L D).valid = true ∧ q + L ≤ n ∧ D ≤ q := by
  constructor
  · rintro ⟨hvalid, hwithin, hdist⟩
    exact ⟨by simpa using hvalid, hwithin, by simpa [distancesFit] using hdist⟩
  · rintro ⟨hvalid, hwithin, hdist⟩
    exact ⟨by simpa using hvalid, hwithin, by simpa [distancesFit] using hdist⟩

theorem length_appendToken {n : Nat} {out : ByteSeq} {t : Token} (h : TokensFit n out.length [t]) :
    (appendToken out t).length = out.length + dlen t := by
  cases t with
  | literal b => exact List.length_append
  | backref L D =>
    obtain ⟨hvalid, -, hD⟩ := tokensFit_backref_iff.1 h
    exact length_copyLoop L ((valid_backref_iff L D).1 hvalid).2.2.1 hD

theorem length_expand {n : Nat} {out : ByteSeq} {ts : List Token} (h : TokensFit n out.length ts) :
    (expand out ts).length = out.length + described ts := by
  induction ts generalizing out with
  | nil => rfl
  | cons t ts ih =>
    obtain ⟨ht, hts⟩ := tokensFit_cons.1 h
    have hlen := length_appendToken ht
    rw [expand_cons, ih (hlen ▸ hts), hlen, described_cons, Nat.add_assoc]

/-! ### Flag bytes -/

theorem flagSum_lt {k : Nat} {ts : List Token} (h : k + ts.length ≤ 8) : flagSum k ts < 2 ^ (8 - k) := by
  induction ts generalizing k with
  | nil => exact Nat.two_pow_pos _
  | cons t ts ih =>
    rw [List.length_cons] at h
    have hrest := ih (k := k + 1) (by omega)
    have hbit : (kindBit t).toNat <<< (7 - k) ≤ 2 ^ (7 - k) := by
      rw [Nat.shiftLeft_eq]
      exact mul_le_of_le_one_left (Nat.zero_le _) (Bool.toNat_le _)
    have hpow : 2 ^ (8 - k) = 2 ^ (7 - k) + 2 ^ (8 - (k + 1)) := by
      rw [show 8 - k = 7 - k + 1 by omega, show 8 - (k + 1) = 7 - k by omega, Nat.pow_succ]
      omega
    rw [flagSum, hpow]
    omega

/-- Bit `7 - (k + j)` is the kind of token `j`, 0 where there is none (41_stream_framer.md R122). -/
theorem testBit_flagSum {k : Nat} {ts : List Token} (h : k + ts.length ≤ 8) {j : Nat} (hj : k + j < 8) :
    (flagSum k ts).testBit (7 - (k + j)) = ts[j]?.any kindBit := by
  induction ts generalizing k j with
  | nil => simp [flagSum]
  | cons t ts ih =>
    rw [List.length_cons] at h
    have hrest : flagSum (k + 1) ts < 2 ^ (7 - k) := by
      have := flagSum_lt (k := k + 1) (ts := ts) (by omega)
      rwa [show 8 - (k + 1) = 7 - k by omega] at this
    rw [flagSum, Nat.shiftLeft_eq, Nat.mul_comm, Nat.testBit_two_pow_mul_add _ hrest]
    cases j with
    | zero => cases hk : kindBit t <;> simp [hk]
    | succ j =>
      rw [if_pos (by omega), show k + (j + 1) = k + 1 + j by omega, ih (by omega) (by omega),
        List.getElem?_cons_succ]

/-- The flag bits of a group's flag byte are its tokens' kinds. -/
theorem flagBit_flagByte {ts : List Token} (h : ts.length ≤ 8) {k : Nat} (hk : k < 8) :
    flagBit (flagByte ts) k = ts[k]?.any kindBit := by
  have := testBit_flagSum (k := 0) (ts := ts) (by omega) (j := k) (by omega)
  rw [Nat.zero_add] at this
  rw [flagBit, flagByte, BitVec.getLsbD_ofNat, this, decide_eq_true (by omega), Bool.true_and]

/-! ### One group -/

/-- What stands at `ip` is read at `ip`. -/
theorem getElem?_of_drop {input : ByteSeq} {ip : Nat} {bs : ByteSeq} (h : input.drop ip = bs) (j : Nat) :
    input[ip + j]? = bs[j]? := by
  rw [← h, List.getElem?_drop]

/-- Past `bs` stands what follows it. -/
theorem drop_add_length {input : ByteSeq} {ip : Nat} {bs rest : ByteSeq} (h : input.drop ip = bs ++ rest) :
    input.drop (ip + bs.length) = rest := by
  rw [← List.drop_drop, h, List.drop_left]

theorem decodeGroup_of_complete {dsize : Nat} {out : ByteSeq} (h : dsize ≤ out.length) (input : ByteSeq) (F : Byte)
    (left ip : Nat) : decodeGroup input dsize F left (out, ip) = .ok (out, ip) := by
  cases left with
  | zero => rfl
  | succ left => exact if_neg (Nat.not_lt.2 h)

/-- A token that fits, its flag bit due and its payload at `ip`, is read whole (42_lz77_decoder.md R161). -/
theorem decodeGroup_token {input : ByteSeq} {dsize : Nat} {F : Byte} {left ip : Nat} {out rest : ByteSeq} {t : Token}
    (hfit : TokensFit dsize out.length [t]) (hflag : flagBit F (7 - left) = kindBit t)
    (hbytes : input.drop ip = packToken t ++ rest) :
    decodeGroup input dsize F (left + 1) (out, ip) =
      decodeGroup input dsize F left (appendToken out t, ip + (packToken t).length) := by
  have hget := getElem?_of_drop hbytes
  cases t with
  | literal b =>
    have hb : input[ip]? = some b := hget 0
    rw [decodeGroup, if_pos (tokensFit_literal_iff.1 hfit), hflag, hb]
    rfl
  | backref L D =>
    obtain ⟨hvalid, hwithin, hD⟩ := tokensFit_backref_iff.1 hfit
    obtain ⟨b0, b1, hpack, hL, hD'⟩ := packToken_backref hvalid
    have hpos : out.length < dsize := by have := (valid_backref_iff L D).1 hvalid; omega
    rw [hpack] at hget ⊢
    have hb0 : input[ip]? = some b0 := hget 0
    have hb1 : input[ip + 1]? = some b1 := hget 1
    rw [decodeGroup, if_pos hpos, hflag, hb0, hb1]
    simp only [kindBit, hL, hD', if_neg (Nat.not_lt.2 hD), if_neg (Nat.not_lt.2 hwithin)]
    rfl

/-- Tokens that fit, announced by the next flag bits, are read in order; `left` flag bits stay unread. -/
theorem decodeGroup_tokens {input : ByteSeq} {dsize : Nat} {F : Byte} {left ip k : Nat} {out rest : ByteSeq}
    {ts : List Token} (hfit : TokensFit dsize out.length ts) (hk : k + (left + ts.length) = 8)
    (hflags : ∀ j t, ts[j]? = some t → flagBit F (k + j) = kindBit t)
    (hbytes : input.drop ip = payloads ts ++ rest) :
    decodeGroup input dsize F (left + ts.length) (out, ip) =
      decodeGroup input dsize F left (expand out ts, ip + (payloads ts).length) := by
  induction ts generalizing ip k out with
  | nil => rfl
  | cons t ts ih =>
    obtain ⟨ht, hts⟩ := tokensFit_cons.1 hfit
    rw [← length_appendToken ht] at hts
    rw [List.length_cons, ← Nat.add_assoc] at hk ⊢
    rw [payloads_cons, List.append_assoc] at hbytes
    have hflag : flagBit F (7 - (left + ts.length)) = kindBit t := by
      rw [← hflags 0 t rfl]; congr 1; omega
    have hflags' : ∀ j t, ts[j]? = some t → flagBit F (k + 1 + j) = kindBit t := fun j t h => by
      rw [← hflags (j + 1) t h]; congr 1; omega
    rw [decodeGroup_token ht hflag hbytes, ih hts (by omega) hflags' (drop_add_length hbytes), expand_cons,
      payloads_cons, List.length_append, Nat.add_assoc]

/-- A written group is read whole, where it is full or completes the output (41_stream_framer.md R123). -/
theorem decodeGroup_writeGroup {input : ByteSeq} {dsize ip : Nat} {out rest : ByteSeq} {ts : List Token}
    (hfit : TokensFit dsize out.length ts) (hlen : ts.length ≤ 8)
    (hend : ts.length = 8 ∨ dsize ≤ out.length + described ts)
    (hbytes : input.drop ip = payloads ts ++ rest) :
    decodeGroup input dsize (flagByte ts) 8 (out, ip) = .ok (expand out ts, ip + (payloads ts).length) := by
  have hflags : ∀ j t, ts[j]? = some t → flagBit (flagByte ts) (0 + j) = kindBit t := fun j t h => by
    obtain ⟨hj, -⟩ := List.getElem?_eq_some_iff.1 h
    rw [Nat.zero_add, flagBit_flagByte hlen (by omega), h]
    rfl
  have hread := decodeGroup_tokens (left := 8 - ts.length) hfit (by omega) hflags hbytes
  rw [Nat.sub_add_cancel hlen] at hread
  rw [hread]
  obtain hfull | hdone := hend
  · rw [hfull]; rfl
  · exact decodeGroup_of_complete (by rwa [length_expand hfit]) ..

/-! ### The stream -/

/-- A written group at `ip` takes one turn of the loop over the groups (42_lz77_decoder.md R161). -/
theorem decodeGroups_writeGroup {input : ByteSeq} {dsize ip : Nat} (fuel : Nat) {out rest : ByteSeq} {ts : List Token}
    (hne : ts ≠ []) (hfit : TokensFit dsize out.length ts) (hlen : ts.length ≤ 8)
    (hend : ts.length = 8 ∨ dsize ≤ out.length + described ts)
    (hbytes : input.drop ip = writeGroup ts ++ rest) :
    decodeGroups input dsize (fuel + 1) (out, ip) =
      decodeGroups input dsize fuel (expand out ts, ip + (writeGroup ts).length) := by
  have hpos : out.length < dsize := by
    have := described_pos hfit.valid hne
    have := hfit.within
    omega
  have hF : input[ip]? = some (flagByte ts) := getElem?_of_drop hbytes 0
  have hpayloads : input.drop (ip + 1) = payloads ts ++ rest := drop_add_length (bs := [flagByte ts]) hbytes
  rw [decodeGroups, if_pos hpos, hF]
  simp only [decodeGroup_writeGroup hfit hlen hend hpayloads]
  rw [writeGroup, List.length_cons, Nat.add_assoc, Nat.add_comm 1]

/-- Written tokens that complete the output are read whole, whatever follows them. -/
theorem decodeGroups_writeTokens {input : ByteSeq} {dsize fuel ip : Nat} {out rest : ByteSeq} {ts : List Token}
    (hfuel : dsize ≤ out.length + fuel) (hfit : TokensFit dsize out.length ts)
    (hdesc : out.length + described ts = dsize) (hbytes : input.drop ip = writeTokens ts ++ rest) :
    decodeGroups input dsize fuel (out, ip) = .ok (expand out ts, ip + (writeTokens ts).length) := by
  induction fuel generalizing ip out ts with
  | zero =>
    obtain rfl : ts = [] := by
      by_contra hne
      have := described_pos hfit.valid hne
      omega
    rfl
  | succ fuel ih =>
    by_cases hne : ts = []
    · subst hne
      exact if_neg (by simpa using hdesc.ge)
    have hsplit : ts.take 8 ++ ts.drop 8 = ts := List.take_append_drop 8 ts
    have hdescribed := described_append (ts.take 8) (ts.drop 8)
    rw [hsplit] at hdescribed
    obtain ⟨hfirst, hrest⟩ := tokensFit_append.1 (hsplit.symm ▸ hfit)
    have hne' : ts.take 8 ≠ [] := by simpa using hne
    have hpos := described_pos hfirst.valid hne'
    have hend : (ts.take 8).length = 8 ∨ dsize ≤ out.length + described (ts.take 8) := by
      by_cases h8 : 8 ≤ ts.length
      · exact .inl (List.length_take_of_le h8)
      · rw [List.take_of_length_le (by omega)]; exact .inr hdesc.ge
    have hout := length_expand hfirst
    rw [← hout] at hrest
    rw [writeTokens_of_ne_nil hne, List.append_assoc] at hbytes
    rw [decodeGroups_writeGroup fuel hne' hfirst (List.length_take_le 8 ts) hend hbytes,
      ih (by omega) hrest (by omega) (drop_add_length hbytes), ← expand_append, hsplit, writeTokens_of_ne_nil hne,
      List.length_append, Nat.add_assoc]

/-- A stream assembled from a token list well formed for its size decodes to the output the tokens describe, whatever
follows it (30_encoding.md R83, R91). -/
theorem decodeStream_assembled {n : Nat} {toks : List Token} (hn : n ≤ maxSize) (hwf : streamWellFormed n toks = true)
    (tag : Byte) (trail : ByteSeq) :
    decodeStream tag (headerBytes tag n ++ writeTokens toks ++ trail) = .ok (expand [] toks) := by
  obtain ⟨hfit, hdesc⟩ := streamWellFormed_iff.1 hwf
  have hsize : (BitVec.ofNat 24 n).toNat = n := Nat.mod_eq_of_lt (Nat.lt_succ_of_le hn)
  rw [List.append_assoc, decodeStream, readHeader_headerBytes]
  have hgroups := decodeGroups_writeTokens (input := headerBytes tag n ++ (writeTokens toks ++ trail)) (dsize := n)
    (fuel := n) (ip := 4) (out := []) (by simp) hfit (by simpa using hdesc) rfl
  simp only [hsize, hgroups]

theorem assemble_of_le {n : Nat} (hn : n ≤ maxSize) (tag : Byte) (toks : List Token) :
    assemble tag n toks = .ok (headerBytes tag n ++ writeTokens toks) := by
  rw [assemble, writeHeader, if_neg (Nat.not_lt.2 hn)]

/-- Settles O60: the stream decodes to the output its tokens describe, whose length is what they describe. -/
theorem wellFormedStreamDecodes : Obligations.WellFormedStreamDecodes := by
  intro tag n toks hn hwf
  obtain ⟨hfit, hdesc⟩ := streamWellFormed_iff.1 hwf
  have hdec := decodeStream_assembled hn hwf tag []
  rw [List.append_nil] at hdec
  have hlen : (expand [] toks).length = 0 + described toks := length_expand (out := []) hfit
  exact ⟨_, _, assemble_of_le hn tag toks, hdec, by rw [hlen, hdesc, Nat.zero_add]⟩

end Sys2Proof.Machine
end

section
/-! SUPPORT. The token codec (40_token_codec.md): what each of its operations answers in a state, and that packing and
unpacking a match are inverse to each other. -/

namespace Sys2Proof.Machine

/-! ### The operations -/

theorem exec_mkMatch_of_valid {L D : Nat} (h : (Token.backref L D).valid = true) (s : State) :
    exec (.mkMatch L D) s = .next { s with ures := .token (.backref L D) } := by
  rw [exec, execMkMatch, mkMatch_eq, if_pos h]
  rfl

theorem exec_mkMatch_of_invalid {L D : Nat} (h : (Token.backref L D).valid ≠ true) (s : State) :
    exec (.mkMatch L D) s = .next { s with ures := .err (.enc .outOfRange) } := by
  rw [exec, execMkMatch, mkMatch_eq, if_neg h]
  rfl

theorem exec_kind_of_valid {t : Token} (h : t.valid = true) (s : State) :
    exec (.kind t) s = .next { s with ures := .flagBit (kindBit t) } := onToken_of_valid h _ s

theorem exec_dlen_of_valid {t : Token} (h : t.valid = true) (s : State) :
    exec (.dlen t) s = .next { s with ures := .length (dlen t) } := onToken_of_valid h _ s

theorem exec_pack_of_valid {t : Token} (h : t.valid = true) (s : State) :
    exec (.pack t) s = .next { s with ures := .bytes (packToken t) } := onToken_of_valid h _ s

/-- Unpacking a match is constructing it from the payload's fields (R107), which are always legal. -/
theorem exec_unpackMatch (b0 b1 : Byte) (s : State) :
    exec (.unpackMatch b0 b1) s =
      .next { s with ures := .token (.backref (payloadLength b0) (payloadDistance b0 b1)) } :=
  exec_mkMatch_of_valid (valid_payload b0 b1) s

/-- Settles O8: the bounds are the validity of the match. -/
theorem tokenConstructorsAnswerOrOutOfRange : Obligations.TokenConstructorsAnswerOrOutOfRange := by
  intro s b L D
  rw [← valid_backref_iff]
  exact ⟨rfl, fun h => exec_mkMatch_of_valid h s, fun h => exec_mkMatch_of_invalid h s⟩

/-- Settles O9: both kinds of token are valid, so each operation answers its value of the token. -/
theorem kindAndDescribedLength : Obligations.KindAndDescribedLength := by
  intro s b L D hL3 hL18 hD1 hD4096
  have hlit : (Token.literal b).valid = true := rfl
  have hmatch : (Token.backref L D).valid = true := (valid_backref_iff L D).2 ⟨hL3, hL18, hD1, hD4096⟩
  exact ⟨exec_kind_of_valid hlit s, exec_kind_of_valid hmatch s, exec_dlen_of_valid hlit s,
    exec_dlen_of_valid hmatch s⟩

/-! ### Packing and unpacking -/

/-- Settles O10: the bytes of a valid match carry its fields, and the fields in numbers determine the bytes. -/
theorem unpackOfPackIsTheToken : Obligations.UnpackOfPackIsTheToken := by
  refine ⟨fun s b => ⟨exec_pack_of_valid rfl s, rfl⟩, fun s L D hL3 hL18 hD1 hD4096 => ?_⟩
  have hvalid : (Token.backref L D).valid = true := (valid_backref_iff L D).2 ⟨hL3, hL18, hD1, hD4096⟩
  obtain ⟨b0, b1, hpack, hL, hD⟩ := packToken_backref hvalid
  have hexecPack := exec_pack_of_valid hvalid s
  have hexecUnpack := exec_unpackMatch b0 b1 s
  rw [hpack] at hexecPack
  rw [hL, hD] at hexecUnpack
  rw [payloadLength_eq] at hL
  rw [payloadDistance_eq] at hD
  have h1 := b1.isLt
  exact ⟨b0, b1, by omega, by omega, hexecPack, hexecUnpack⟩

/-- A payload is determined by its fields: no bit of it is unused (30_encoding.md R79, R80). -/
theorem payload_eq_of_fields_eq {b0 b1 c0 c1 : Byte} (hL : payloadLength c0 = payloadLength b0)
    (hD : payloadDistance c0 c1 = payloadDistance b0 b1) : c0 = b0 ∧ c1 = b1 := by
  rw [payloadLength_eq, payloadLength_eq] at hL
  rw [payloadDistance_eq, payloadDistance_eq] at hD
  have hb1 := b1.isLt
  have hc1 := c1.isLt
  exact ⟨BitVec.eq_of_toNat_eq (by omega), BitVec.eq_of_toNat_eq (by omega)⟩

/-- Packing the match of a payload gives the payload back (R109). -/
theorem packToken_payload (b0 b1 : Byte) :
    packToken (.backref (payloadLength b0) (payloadDistance b0 b1)) = [b0, b1] := by
  obtain ⟨c0, c1, hpack, hL, hD⟩ := packToken_backref (valid_payload b0 b1)
  obtain ⟨rfl, rfl⟩ := payload_eq_of_fields_eq hL hD
  exact hpack

/-- Settles O11: the fields are those of a valid match, and its payload is the bytes they were read from. -/
theorem packOfUnpackIsThePayload : Obligations.PackOfUnpackIsThePayload := by
  intro s b0 b1
  have hvalid := valid_payload b0 b1
  have hexecPack := exec_pack_of_valid hvalid s
  rw [packToken_payload] at hexecPack
  obtain ⟨hL3, hL18, hD1, hD4096⟩ := (valid_backref_iff _ _).1 hvalid
  exact ⟨payloadLength b0, payloadDistance b0 b1, payloadLength_eq b0, payloadDistance_eq b0 b1, hL3, hL18, hD1,
    hD4096, exec_unpackMatch b0 b1 s, hexecPack⟩

end Sys2Proof.Machine
end

section
/-! SUPPORT. The stream framer (41_stream_framer.md): what each of its operations answers in a state, READ_TOKENS of
written tokens, and what READ_TOKENS can answer on any bytes. -/

namespace Sys2Proof.Machine

/-! ### Headers -/

/-- The number a masked byte holds (20_memory.md R56). -/
theorem toNat_maskedByte (m : Nat) : (BitVec.ofNat 8 (m &&& 0xFF)).toNat = m % 256 := by
  have low : m &&& 0xFF = m % 2 ^ 8 := Nat.and_two_pow_sub_one_eq_mod m 8
  rw [low, BitVec.toNat_ofNat]
  exact Nat.mod_mod m 256

theorem exec_writeHeader_of_le {size : Nat} (h : size ≤ maxSize) (s : State) :
    exec (.writeHeader size) s = .next { s with ures := .bytes (headerBytes s.cfg.tag size) } := by
  rw [exec, execWriteHeader, writeHeader, if_neg (Nat.not_lt.2 h)]
  rfl

theorem exec_writeHeader_of_gt {size : Nat} (h : maxSize < size) (s : State) :
    exec (.writeHeader size) s = .next { s with ures := .err (.enc .sizeTooLarge) } := by
  rw [exec, execWriteHeader, writeHeader, if_pos h]
  rfl

theorem exec_readHeader_of_ok {s : State} {bytes : ByteSeq} {size : BitVec 24}
    (h : readHeader s.cfg.tag bytes = .ok size) :
    exec (.readHeader bytes) s = .next { s with ures := .size size } := by
  rw [exec, execReadHeader, h]
  rfl

theorem exec_readHeader_of_error {s : State} {bytes : ByteSeq} {e : DecodeError}
    (h : readHeader s.cfg.tag bytes = .error e) :
    exec (.readHeader bytes) s = .next { s with ures := .err (.dec e) } := by
  rw [exec, execReadHeader, h]
  rfl

/-- Settles O12: the header's bytes in numbers, up to the greatest size. -/
theorem writeHeaderAnswersFourBytesOrSizeTooLarge : Obligations.WriteHeaderAnswersFourBytesOrSizeTooLarge := by
  refine fun s size => ⟨fun h => ⟨_, _, _, toNat_maskedByte _, ?_, ?_, exec_writeHeader_of_le h s⟩,
    fun h => exec_writeHeader_of_gt h s⟩
  · rw [toNat_maskedByte, Nat.shiftRight_eq_div_pow]
  · rw [toNat_maskedByte, Nat.shiftRight_eq_div_pow]

/-- Settles O13: a wrong tag, else a missing byte, else the size field in numbers. -/
theorem readHeaderChecksTagThenLength : Obligations.ReadHeaderChecksTagThenLength := by
  refine fun s bytes => ⟨?wrongTag, ?short, ?size⟩
  case wrongTag =>
    rintro b rest rfl hb
    exact exec_readHeader_of_error (readHeader_of_ne hb rest)
  case short => exact fun htag hlen => exec_readHeader_of_error (readHeader_short htag hlen)
  case size =>
    rintro b1 b2 b3 rest rfl
    exact ⟨_, headerSize_toNat b1 b2 b3, exec_readHeader_of_ok (readHeader_tag ..)⟩

/-! ### Writing tokens -/

theorem exec_flagByte_of_valid {ts : List Token} (hpos : 1 ≤ ts.length) (hlen : ts.length ≤ 8)
    (hvalid : ts.all Token.valid = true) (s : State) :
    exec (.flagByte ts) s = .next { s with ures := .byte (flagByte ts) } := if_pos ⟨hpos, hlen, hvalid⟩

theorem exec_writeTokens_of_valid {ts : List Token} (hvalid : ts.all Token.valid = true) (s : State) :
    exec (.writeTokens ts) s = .next { s with ures := .bytes (writeTokens ts) } := if_pos hvalid

/-- Settles O14: the flag bits are the kinds of the tokens at their positions. -/
theorem flagByteClassifiesMostSignificantFirst : Obligations.FlagByteClassifiesMostSignificantFirst := by
  intro s ts hpos hlen hvalid
  refine ⟨flagByte ts, exec_flagByte_of_valid hpos hlen hvalid s, fun k hk => ?_⟩
  have hbit : (flagByte ts).getLsbD (7 - k) = ts[k]?.any kindBit := flagBit_flagByte hlen hk
  rw [hbit]
  cases ts[k]? <;> rfl

/-- Settles O15: the first group is its flag byte and payloads, and the rest is written after it. -/
theorem writeTokensWritesGroupsOfEight : Obligations.WriteTokensWritesGroupsOfEight :=
  fun s _ hvalid => ⟨exec_writeTokens_of_valid hvalid s, fun h => h ▸ writeTokens_nil, writeTokens_of_ne_nil⟩

/-! ### Reading written tokens -/

theorem exec_readTokens_of_ok {bytes : ByteSeq} {expected : BitVec 24} {r : ReadProgress}
    (h : readTokens bytes expected = .ok r) (s : State) :
    exec (.readTokens bytes expected) s = .next { s with ures := .parsed r.toks r.described r.next } := by
  rw [exec, execReadTokens, h]
  rfl

theorem exec_readTokens_of_error {bytes : ByteSeq} {expected : BitVec 24} {e : DecodeError}
    (h : readTokens bytes expected = .error e) (s : State) :
    exec (.readTokens bytes expected) s = .next { s with ures := .err (.dec e) } := by
  rw [exec, execReadTokens, h]
  rfl

/-- The progress once `ts` have been read from the next `len` bytes. -/
def ReadProgress.after (r : ReadProgress) (ts : List Token) (len : Nat) : ReadProgress :=
  { toks := r.toks ++ ts, described := r.described + Machine.described ts, next := r.next + len }

theorem ReadProgress.push_eq_after (r : ReadProgress) (t : Token) (len : Nat) : r.push t len = r.after [t] len := rfl

@[simp] theorem ReadProgress.after_described (r : ReadProgress) (ts : List Token) (len : Nat) :
    (r.after ts len).described = r.described + Machine.described ts := rfl

@[simp] theorem ReadProgress.after_nil (r : ReadProgress) : r.after [] 0 = r := by
  simp [ReadProgress.after]

theorem ReadProgress.after_after (r : ReadProgress) (ts us : List Token) (j k : Nat) :
    (r.after ts j).after us k = r.after (ts ++ us) (j + k) := by
  simp only [ReadProgress.after, List.append_assoc, described_append, Nat.add_assoc]

theorem readGroup_of_complete {expected : Nat} {r : ReadProgress} (h : expected ≤ r.described) (bytes : ByteSeq)
    (F : Byte) (left : Nat) : readGroup bytes expected F left r = .ok r := by
  cases left with
  | zero => rfl
  | succ left => exact if_neg (Nat.not_lt.2 h)

theorem readGroups_of_complete {expected : Nat} {r : ReadProgress} (h : expected ≤ r.described) (bytes : ByteSeq)
    (fuel : Nat) : readGroups bytes expected fuel r = .ok r := by
  cases fuel with
  | zero => rfl
  | succ fuel => exact if_neg (Nat.not_lt.2 h)

/-- A valid token's payload is read as the token. -/
theorem readPayload_packToken {bytes rest : ByteSeq} {r : ReadProgress} {t : Token} (hvalid : t.valid = true)
    (hbytes : bytes.drop r.next = packToken t ++ rest) :
    readPayload bytes (kindBit t) r = .ok (r.after [t] (packToken t).length) := by
  have hget := getElem?_of_drop hbytes
  cases t with
  | literal b =>
    have hb : bytes[r.next]? = some b := hget 0
    simp only [kindBit, readPayload, hb]
    exact congrArg _ (r.push_eq_after _ _)
  | backref L D =>
    obtain ⟨b0, b1, hpack, rfl, rfl⟩ := packToken_backref hvalid
    rw [hpack] at hget ⊢
    have hb0 : bytes[r.next]? = some b0 := hget 0
    have hb1 : bytes[r.next + 1]? = some b1 := hget 1
    simp only [kindBit, readPayload, hb0, hb1]
    exact congrArg _ (r.push_eq_after _ _)

/-- The tokens `ts` of a group are read whole after the tokens `pre` of the same group, where the group is full or
completes the expected size (41_stream_framer.md R123, R124). -/
theorem readGroup_group {bytes rest : ByteSeq} {expected : Nat} {r : ReadProgress} {pre ts : List Token}
    (hvalid : ts.all Token.valid = true) (hlen : (pre ++ ts).length ≤ 8)
    (hwithin : r.described + described ts ≤ expected)
    (hend : (pre ++ ts).length = 8 ∨ expected ≤ r.described + described ts)
    (hbytes : bytes.drop r.next = payloads ts ++ rest) :
    readGroup bytes expected (flagByte (pre ++ ts)) (8 - pre.length) r = .ok (r.after ts (payloads ts).length) := by
  induction ts generalizing pre r with
  | nil =>
    refine Eq.trans ?_ (congrArg Except.ok r.after_nil.symm)
    obtain hfull | hdone := hend
    · rw [← List.append_nil pre, hfull]
      rfl
    · exact readGroup_of_complete hdone ..
  | cons t ts ih =>
    have hsplit : pre ++ t :: ts = pre ++ [t] ++ ts := List.append_cons pre t ts
    obtain ⟨ht, hts⟩ := by simpa only [List.all_cons, Bool.and_eq_true] using hvalid
    have hlt : pre.length < 8 := by simp only [List.length_append, List.length_cons] at hlen; omega
    have hleft : 8 - pre.length = 8 - (pre.length + 1) + 1 := by omega
    have hflag : flagBit (flagByte (pre ++ t :: ts)) (7 - (8 - (pre.length + 1))) = kindBit t := by
      rw [show 7 - (8 - (pre.length + 1)) = pre.length by omega, flagBit_flagByte hlen hlt,
        List.getElem?_append_right le_rfl, Nat.sub_self]
      rfl
    have hpos := one_le_dlen ht
    rw [described_cons, ← Nat.add_assoc] at hwithin hend
    rw [payloads_cons, List.append_assoc] at hbytes
    have hrest := ih (pre := pre ++ [t]) (r := r.after [t] (packToken t).length) hts (hsplit ▸ hlen) hwithin
      (hsplit ▸ hend) (drop_add_length hbytes)
    rw [← hsplit, List.length_append, List.length_singleton, ReadProgress.after_after, List.singleton_append] at hrest
    rw [hleft, readGroup, if_pos (by omega), hflag, readPayload_packToken ht hbytes, payloads_cons, List.length_append]
    exact hrest

/-- The first group is full, or it is the whole list (R123). -/
theorem firstGroup_full_or_all (ts : List Token) : (ts.take 8).length = 8 ∨ ts.take 8 = ts := by
  by_cases h : 8 ≤ ts.length
  · exact .inl (List.length_take_of_le h)
  · exact .inr (List.take_of_length_le (Nat.le_of_not_le h))

/-- A written group at the next index takes one turn of the loop over the groups (R124). -/
theorem readGroups_writeGroup {bytes rest : ByteSeq} {expected : Nat} (fuel : Nat) {r : ReadProgress}
    {ts : List Token} (hne : ts ≠ []) (hvalid : ts.all Token.valid = true) (hlen : ts.length ≤ 8)
    (hwithin : r.described + described ts ≤ expected)
    (hend : ts.length = 8 ∨ expected ≤ r.described + described ts)
    (hbytes : bytes.drop r.next = writeGroup ts ++ rest) :
    readGroups bytes expected (fuel + 1) r = readGroups bytes expected fuel (r.after ts (writeGroup ts).length) := by
  have hpos := described_pos hvalid hne
  have hF : bytes[r.next]? = some (flagByte ts) := getElem?_of_drop hbytes 0
  have hpayloads : bytes.drop (r.next + 1) = payloads ts ++ rest := drop_add_length (bs := [flagByte ts]) hbytes
  have hgroup := readGroup_group (pre := []) (r := { r with next := r.next + 1 }) hvalid hlen hwithin hend hpayloads
  rw [List.nil_append, List.length_nil, Nat.sub_zero] at hgroup
  rw [readGroups, if_pos (by omega), hF]
  simp only [hgroup, ReadProgress.after, writeGroup, List.length_cons, Nat.add_assoc, Nat.add_comm 1]

/-- Written tokens that complete the expected size are read whole, whatever follows them. -/
theorem readGroups_writeTokens {bytes rest : ByteSeq} {expected fuel : Nat} {r : ReadProgress} {ts : List Token}
    (hfuel : expected ≤ r.described + fuel) (hvalid : ts.all Token.valid = true)
    (hdesc : r.described + described ts = expected) (hbytes : bytes.drop r.next = writeTokens ts ++ rest) :
    readGroups bytes expected fuel r = .ok (r.after ts (writeTokens ts).length) := by
  induction ts using groups_induction generalizing fuel r with
  | nil =>
    rw [readGroups_of_complete hdesc.ge]
    exact congrArg _ r.after_nil.symm
  | group ts hne ih =>
    have hsplit : ts.take 8 ++ ts.drop 8 = ts := List.take_append_drop 8 ts
    obtain ⟨hfirst, hrest⟩ : (ts.take 8).all Token.valid = true ∧ (ts.drop 8).all Token.valid = true := by
      rwa [← Bool.and_eq_true, ← List.all_append, hsplit]
    have hdescribed := described_append (ts.take 8) (ts.drop 8)
    rw [hsplit] at hdescribed
    have hne' : ts.take 8 ≠ [] := by simpa using hne
    have hpos := described_pos hfirst hne'
    have hend : (ts.take 8).length = 8 ∨ expected ≤ r.described + described (ts.take 8) :=
      (firstGroup_full_or_all ts).imp_right fun hall => by rw [hall]; exact hdesc.ge
    obtain ⟨fuel, rfl⟩ : ∃ f, fuel = f + 1 := Nat.exists_eq_succ_of_ne_zero (by omega)
    rw [writeTokens_of_ne_nil hne, List.append_assoc] at hbytes
    rw [readGroups_writeGroup fuel hne' hfirst (List.length_take_le 8 ts) (by omega) hend hbytes,
      ih (by rw [ReadProgress.after_described]; omega) hrest (by rw [ReadProgress.after_described]; omega)
        (drop_add_length hbytes), ReadProgress.after_after, hsplit, writeTokens_of_ne_nil hne, List.length_append]

/-- Settles O18: the groups begin behind the four header bytes, and are read whole by `readGroups_writeTokens`. -/
theorem readTokensOfAssembledStream : Obligations.ReadTokensOfAssembledStream := by
  intro s toks trail n hvalid hdesc
  have hn : n.toNat ≤ maxSize := Nat.le_of_lt_succ n.isLt
  refine ⟨_, assemble_of_le hn s.cfg.tag toks, ?_⟩
  have hread : readTokens (headerBytes s.cfg.tag n.toNat ++ writeTokens toks ++ trail) n =
      .ok (ReadProgress.after ⟨[], 0, 4⟩ toks (writeTokens toks).length) :=
    readGroups_writeTokens (rest := trail) (Nat.le_add_left _ _) hvalid (by rw [hdesc, Nat.zero_add])
      (by rw [List.append_assoc]; rfl)
  rw [exec_readTokens_of_ok hread, ReadProgress.after, List.nil_append, Nat.zero_add, hdesc]

/-! ### Reading any bytes -/

/-- What READ_TOKENS keeps (R124, R125): its tokens are valid and describe the bytes counted, which overrun the expected
size by less than one match, and no byte past the input's end has been read. -/
structure ReadSound (bytes : ByteSeq) (expected : Nat) (r : ReadProgress) : Prop where
  valid : r.toks.all Token.valid = true
  describes : described r.toks = r.described
  overrun : r.described < expected + 18
  behindHeader : 4 ≤ r.next
  within : r.described = 0 ∨ r.next ≤ bytes.length

theorem readSound_start (bytes : ByteSeq) (expected : Nat) : ReadSound bytes expected ⟨[], 0, 4⟩ :=
  ⟨rfl, rfl, Nat.add_pos_right expected (by decide), Nat.le_refl 4, .inl rfl⟩

theorem ReadSound.flagByteRead {bytes : ByteSeq} {expected : Nat} {r : ReadProgress}
    (h : ReadSound bytes expected r) (hnext : r.next < bytes.length) :
    ReadSound bytes expected { r with next := r.next + 1 } :=
  ⟨h.valid, h.describes, h.overrun, Nat.le_succ_of_le h.behindHeader, .inr hnext⟩

theorem dlen_le_of_valid {t : Token} (h : t.valid = true) : dlen t ≤ 18 := by
  cases t with
  | literal b => exact (by decide : 1 ≤ 18)
  | backref L D => exact ((valid_backref_iff L D).1 h).2.1

theorem ReadSound.push {bytes : ByteSeq} {expected len : Nat} {r : ReadProgress} {t : Token}
    (h : ReadSound bytes expected r) (hlt : r.described < expected) (ht : t.valid = true)
    (hnext : r.next + len ≤ bytes.length) : ReadSound bytes expected (r.push t len) where
  valid := by simp [ReadProgress.push, h.valid, ht]
  describes := by simp [ReadProgress.push, described_append, h.describes]
  overrun := Nat.add_lt_add_of_lt_of_le hlt (dlen_le_of_valid ht)
  behindHeader := Nat.le_add_right_of_le h.behindHeader
  within := .inr hnext

/-- The result is the error `Truncated`, or an answer with the property. -/
def AnswersOrTruncated (P : ReadProgress → Prop) (x : Except DecodeError ReadProgress) : Prop :=
  x = .error .truncated ∨ ∃ r, x = .ok r ∧ P r

/-- A payload is read as a valid token from bytes that exist, or a byte is missing. -/
theorem readPayload_cases (bytes : ByteSeq) (isMatch : Bool) (r : ReadProgress) :
    readPayload bytes isMatch r = .error .truncated ∨ ∃ t len, t.valid = true ∧ r.next + len ≤ bytes.length ∧
      readPayload bytes isMatch r = .ok (r.push t len) := by
  unfold readPayload
  split
  · next b hb => exact .inr ⟨.literal b, 1, rfl, (List.getElem?_eq_some_iff.1 hb).1, rfl⟩
  · next b0 b1 _ hb1 => exact .inr ⟨_, 2, valid_payload b0 b1, (List.getElem?_eq_some_iff.1 hb1).1, rfl⟩
  · exact .inl rfl

/-- A group is read up to the expected size, or one token for each flag bit. -/
theorem readGroup_sound {bytes : ByteSeq} {expected : Nat} (F : Byte) (left : Nat) {r : ReadProgress}
    (h : ReadSound bytes expected r) :
    AnswersOrTruncated
      (fun r' => ReadSound bytes expected r' ∧ (expected ≤ r'.described ∨ r.described + left ≤ r'.described))
      (readGroup bytes expected F left r) := by
  induction left generalizing r with
  | zero => exact .inr ⟨r, rfl, h, .inr (Nat.le_refl _)⟩
  | succ left ih =>
    by_cases hlt : r.described < expected
    · rw [readGroup, if_pos hlt]
      obtain herr | ⟨t, len, ht, hnext, hok⟩ := readPayload_cases bytes (flagBit F (7 - left)) r
      · exact .inl (by rw [herr])
      · rw [hok]
        have hpos := one_le_dlen ht
        obtain hgroup | ⟨r', hgroup, hr', hcount⟩ := ih (h.push hlt ht hnext)
        · exact .inl hgroup
        · exact .inr ⟨r', hgroup, hr', hcount.imp_right fun hle => by simp only [ReadProgress.push] at hle; omega⟩
    · have hdone := Nat.not_lt.1 hlt
      exact .inr ⟨r, readGroup_of_complete hdone .., h, .inl hdone⟩

/-- The groups are read up to the expected size: each describes at least one byte, so the fuel suffices. -/
theorem readGroups_sound {bytes : ByteSeq} {expected fuel : Nat} {r : ReadProgress}
    (hfuel : expected ≤ r.described + fuel) (h : ReadSound bytes expected r) :
    AnswersOrTruncated (fun r' => ReadSound bytes expected r' ∧ expected ≤ r'.described)
      (readGroups bytes expected fuel r) := by
  induction fuel generalizing r with
  | zero => exact .inr ⟨r, rfl, h, hfuel⟩
  | succ fuel ih =>
    by_cases hlt : r.described < expected
    · rw [readGroups, if_pos hlt]
      cases hF : bytes[r.next]? with
      | none => exact .inl rfl
      | some F =>
        obtain ⟨hnext, -⟩ := List.getElem?_eq_some_iff.1 hF
        obtain hgroup | ⟨r', hgroup, hr', hcount⟩ := readGroup_sound F 8 (h.flagByteRead hnext)
        · exact .inl (by simp only [hgroup])
        · have hfuel' : expected ≤ r'.described + fuel := by simp only at hcount; omega
          simpa only [hgroup] using ih hfuel' hr'
    · have hdone := Nat.not_lt.1 hlt
      exact .inr ⟨r, readGroups_of_complete hdone .., h, hdone⟩

/-- Settles O17: the loop over the groups starts sound behind the header and answers at the expected size. -/
theorem readTokensAnswersOrTruncated : Obligations.ReadTokensAnswersOrTruncated := by
  intro s bytes expected
  obtain herr | ⟨r, hok, hsound, hsize⟩ :=
    readGroups_sound (Nat.le_add_left _ _) (readSound_start bytes expected.toNat)
  · exact .inl (exec_readTokens_of_error herr s)
  · refine .inr ⟨r.toks, r.described, r.next, exec_readTokens_of_ok hok s, hsound.valid, hsound.describes, hsize,
      hsound.overrun, hsound.behindHeader, fun hne => hsound.within.resolve_left fun hzero => hne ?_⟩
    exact BitVec.eq_of_toNat_eq (Nat.le_zero.1 (hzero ▸ hsize))

end Sys2Proof.Machine
end

section
/-! SUPPORT. The step of a running unit with a quiet host: the element a reading phase decodes and runs, the rejection it
raises, and the steps a phase selects by itself (42_lz77_decoder.md R151, 44_lz77_encoder_parser.md R210). -/

namespace Sys2Proof.Machine

theorem step_busy {s : State} (hb : s.blk = .busy) (hh : s.host = []) : step s = (unitAction s).result := by
  rw [step_eq_result, nextAction_busy hb hh]

/-- A DECOMPRESS is running and the host is quiet. -/
structure Decompressing (s : State) : Prop where
  busy : s.blk = .busy
  op : s.op = .decompress
  quiet : s.host = []

/-! ### The phases that read -/

theorem slot_expectHeader {s : State} (hd : s.dph = .expectHeader) : s.slot = some .header := by
  rw [State.slot, hd]

theorem slot_expectFlagGroup {s : State} (hd : s.dph = .expectFlagGroup) : s.slot = some .flagByte := by
  rw [State.slot, hd]

theorem slot_token {s : State} {k : Bool} (hd : s.dph = .inGroup) (hn : s.nbit.toNat < 8)
    (hk : flagBit s.flags s.nbit.toNat = k) : s.slot = some (.token k) := by
  rw [slot_inGroup hd, if_pos hn, hk]

theorem step_reads {s : State} {sl : Slot} (hs : Decompressing s) (hslot : s.slot = some sl) :
    step s = (fetchElement sl s).result := by
  simp only [step_busy hs.busy hs.quiet, unitAction, hs.op, decoderAction, hslot]

/-- A reading phase executes the element its bytes decode to. -/
theorem step_of_decode_ok {s : State} {sl : Slot} {i : Instr} {rest : ByteSeq} (hs : Decompressing s)
    (hslot : s.slot = some sl) (h : decode s.cfg.tag sl (s.fetchBytes sl) = .ok (i, rest)) : step s = exec i s := by
  rw [step_reads hs hslot, fetchElement, h]
  rfl

/-- A reading phase raises the error of a rejection (30_encoding.md R85). -/
theorem step_of_decode_error {s : State} {sl : Slot} {r : Reject} (hs : Decompressing s)
    (hslot : s.slot = some sl) (h : decode s.cfg.tag sl (s.fetchBytes sl) = .error r) :
    step s = .next (raise (.dec r.toError) s) := by
  rw [step_reads hs hslot, fetchElement, h]
  rfl

/-- Every decoded element is well formed: the only operands with a bound are a match's (30_encoding.md R80). -/
theorem wf_of_decode {tag : Byte} {sl : Slot} {bytes rest : ByteSeq} {i : Instr}
    (h : decode tag sl bytes = .ok (i, rest)) : i.wf = true := by
  match sl, bytes, h with
  | .header, _, h => obtain ⟨-, size, rfl⟩ := decode_header_ok h; rfl
  | .flagByte, _, h => obtain ⟨-, f, rfl⟩ := decode_flagByte_ok h; rfl
  | .token false, _, h => obtain ⟨-, b, rfl⟩ := decode_literal_ok h; rfl
  | .token true, b0 :: b1 :: _, h => cases h; exact valid_payload b0 b1

/-- Settles O32: each of the three reading phases names its slot and the bytes it is read from. -/
theorem stepRunsTheDecodedElement : Obligations.StepRunsTheDecodedElement := by
  intro s sl bytes hb hop hh hphase
  have hs : Decompressing s := ⟨hb, hop, hh⟩
  obtain ⟨hslot, rfl⟩ : s.slot = some sl ∧ bytes = s.fetchBytes sl := by
    obtain ⟨hd, rfl, rfl⟩ | ⟨hd, rfl, rfl⟩ | ⟨hd, hn, rfl, rfl⟩ := hphase
    · exact ⟨slot_expectHeader hd, rfl⟩
    · exact ⟨slot_expectFlagGroup hd, rfl⟩
    · exact ⟨slot_token hd hn rfl, rfl⟩
  exact ⟨fun i rest h => ⟨wf_of_decode h, step_of_decode_ok hs hslot h⟩, fun r h => step_of_decode_error hs hslot h⟩

/-! ### The phases that read nothing -/

theorem step_copying {s : State} (hs : Decompressing s) (hd : s.dph = .copying) : step s = exec .copy s := by
  simp only [step_busy hs.busy hs.quiet, unitAction, hs.op, decoderAction, State.slot, hd]
  rfl

/-- Settles O33: the action of each phase is the instruction itself. -/
theorem stepRunsThePhaseSelectedStep : Obligations.StepRunsThePhaseSelectedStep := by
  intro s hb hh
  refine ⟨fun hop hd => step_copying ⟨hb, hop, hh⟩ hd, fun hop he => ?_, fun hop he => ?_, fun hop he => ?_⟩
  all_goals
    simp only [step_busy hb hh, unitAction, hop, encoderAction, he]
    rfl

/-- A unit that has ended is completed by the next step (45_host_interface.md R243). -/
theorem step_completes {s t : State} (hb : s.blk = .busy) (hh : s.host = []) (h : complete s = some t) :
    step s = .next t := by
  have hact : unitAction s = completeAction s := by
    obtain ⟨hop, hd, -⟩ | ⟨hop, hd, -⟩ | ⟨hop, he, -⟩ | ⟨hop, he, -⟩ := complete_some_iff.1 h
    · simp only [unitAction, hop, decoderAction, State.slot, hd]
    · simp only [unitAction, hop, decoderAction, State.slot, hd]
    · simp only [unitAction, hop, encoderAction, he]
    · simp only [unitAction, hop, encoderAction, he]
  rw [step_busy hb hh, hact, completeAction, h]
  rfl

theorem step_done {s : State} (hs : Decompressing s) (hd : s.dph = .done) : step s = .next (finish .ok s.out s) :=
  step_completes hs.busy hs.quiet (complete_some_iff.2 (.inl ⟨hs.op, hd, rfl⟩))

theorem step_failed {s : State} (hs : Decompressing s) (hd : s.dph = .failed) :
    step s = .next (finish (.error (.dec s.derr)) [] s) :=
  step_completes hs.busy hs.quiet (complete_some_iff.2 (.inr (.inl ⟨hs.op, hd, rfl⟩)))

end Sys2Proof.Machine
end

section
/-! SUPPORT. The decoder's steps (42_lz77_decoder.md R152 to R158), each with the input it finds at the cursor. -/

namespace Sys2Proof.Machine

/-! ### The element at the cursor -/

theorem readHeader_error {tag : Byte} {bytes : ByteSeq} {e : DecodeError} (h : readHeader tag bytes = .error e) :
    e = .badMagic ∨ e = .truncated := by
  unfold readHeader at h
  split at h
  · cases h; exact .inr rfl
  · split at h
    · cases h; exact .inl rfl
    · split at h
      · cases h
      · cases h; exact .inr rfl

theorem decode_header_of_ok {tag : Byte} {bytes : ByteSeq} {size : BitVec 24} (h : readHeader tag bytes = .ok size) :
    decode tag .header bytes = .ok (.hdr size, bytes.drop 4) := by
  simp only [decode, h]

/-- The header slot rejects with the error READ_HEADER answers. -/
theorem decode_header_of_error {tag : Byte} {bytes : ByteSeq} {e : DecodeError}
    (h : readHeader tag bytes = .error e) : ∃ r, decode tag .header bytes = .error r ∧ r.toError = e := by
  obtain rfl | rfl := readHeader_error h
  · exact ⟨.badMagic, by simp only [decode, h], rfl⟩
  · exact ⟨.truncated, by simp only [decode, h], rfl⟩

theorem drop_of_getElem? {input : ByteSeq} {ip : Nat} {b : Byte} (h : input[ip]? = some b) :
    input.drop ip = b :: input.drop (ip + 1) := by
  rw [List.drop_eq_getElem?_toList_append, h]
  rfl

theorem decode_match_short (tag : Byte) {bytes : ByteSeq} (h : bytes.length ≤ 1) :
    decode tag (.token true) bytes = .error .truncated := by
  match bytes, h with
  | [], _ | [_], _ => rfl

/-! ### Header and flag byte -/

/-- Settles O25: HDR in its phase, and the header slot as READ_HEADER of the input. -/
theorem headerStep : Obligations.HeaderStep := by
  intro s hb hop hd
  have hexec (size : BitVec 24) : exec (.hdr size) s =
      .next { s with dsize := size, ip := 4, dph := if size = 0 then .done else .expectFlagGroup } :=
    execHdr_next_iff.2 ⟨(decoderIn_iff s _).2 ⟨hb, hop, hd⟩, rfl⟩
  refine ⟨hexec, fun hh => ⟨fun size hsize => ?_, fun e he => ?_⟩⟩
  · rw [step_of_decode_ok ⟨hb, hop, hh⟩ (slot_expectHeader hd) (decode_header_of_ok hsize), hexec]
  · obtain ⟨r, hr, rfl⟩ := decode_header_of_error he
    exact step_of_decode_error ⟨hb, hop, hh⟩ (slot_expectHeader hd) hr

/-- Settles O26: FLAGS in its phase, and the byte at `ip`. -/
theorem flagByteStep : Obligations.FlagByteStep := by
  intro s hb hop hd
  have hexec (f : Byte) : exec (.flags f) s =
      .next { s with flags := f, ip := s.ip + 1, nbit := 0, dph := .inGroup } :=
    execFlags_next_iff.2 ⟨(decoderIn_iff s _).2 ⟨hb, hop, hd⟩, rfl⟩
  refine ⟨hexec, fun hh => ⟨fun f hf => ?_, fun hend => ?_⟩⟩
  · have hdec : decode s.cfg.tag .flagByte (s.fetchBytes .flagByte) = .ok (.flags f, s.inp.drop (s.ip + 1)) := by
      rw [State.fetchBytes, drop_of_getElem? hf, decode]
    rw [step_of_decode_ok ⟨hb, hop, hh⟩ (slot_expectFlagGroup hd) hdec, hexec]
  · have hdec : decode s.cfg.tag .flagByte (s.fetchBytes .flagByte) = .error .truncated := by
      rw [State.fetchBytes, List.drop_eq_nil_of_le hend]; rfl
    exact step_of_decode_error ⟨hb, hop, hh⟩ (slot_expectFlagGroup hd) hdec

/-! ### Tokens -/

/-- Settles O27: LIT where a literal is due, its boundary written out, and the byte at `ip`. -/
theorem literalStep : Obligations.LiteralStep := by
  intro s hb hop hd hn hk
  have hnbit := toNat_nbit_add_one hn
  refine ⟨fun b => ?_, hnbit, fun hh => ⟨fun b hbyte => ?_, fun hend => ?_⟩⟩
  · refine execLit_next_iff.2 ⟨(tokenDue_iff s false).2 ⟨hb, hop, hd, hn, hk⟩, ?_⟩
    simp only [boundary, State.countToken, State.outAppend, List.length_append, List.length_singleton, hnbit]
  · have hdec : decode s.cfg.tag (.token false) (s.fetchBytes (.token false)) = .ok (.lit b, s.inp.drop (s.ip + 1)) := by
      rw [State.fetchBytes, drop_of_getElem? hbyte, decode]
    exact step_of_decode_ok ⟨hb, hop, hh⟩ (slot_token hd hn hk) hdec
  · have hdec : decode s.cfg.tag (.token false) (s.fetchBytes (.token false)) = .error .truncated := by
      rw [State.fetchBytes, List.drop_eq_nil_of_le hend]; rfl
    exact step_of_decode_error ⟨hb, hop, hh⟩ (slot_token hd hn hk) hdec

/-- A match whose two payload bytes stand at `ip` is executed with their fields (R79). -/
theorem step_match_of_bytes {s : State} {b0 b1 : Byte} (hs : Decompressing s) (hd : s.dph = .inGroup)
    (hn : s.nbit.toNat < 8) (hk : flagBit s.flags s.nbit.toNat = true) (h0 : s.inp[s.ip]? = some b0)
    (h1 : s.inp[s.ip + 1]? = some b1) :
    step s = exec (.matchRef (payloadLength b0) (payloadDistance b0 b1)) s := by
  refine step_of_decode_ok hs (slot_token hd hn hk) (rest := s.inp.drop (s.ip + 1 + 1)) ?_
  rw [State.fetchBytes, drop_of_getElem? h0, drop_of_getElem? h1, decode]

theorem step_match_of_missing {s : State} (hs : Decompressing s) (hd : s.dph = .inGroup) (hn : s.nbit.toNat < 8)
    (hk : flagBit s.flags s.nbit.toNat = true) (hend : s.inp.length ≤ s.ip + 1) :
    step s = .next (raise (.dec .truncated) s) := by
  have hshort : (s.fetchBytes (.token true)).length ≤ 1 := by
    rw [State.fetchBytes, List.length_drop]
    omega
  exact step_of_decode_error hs (slot_token hd hn hk) (decode_match_short s.cfg.tag hshort)

/-- Settles O28: MATCH where a match is due, check by check, and the two bytes at `ip`. -/
theorem matchStep : Obligations.MatchStep := by
  intro s hb hop hd hn hk
  have hdue : s.tokenDue true = true := (tokenDue_iff s true).2 ⟨hb, hop, hd, hn, hk⟩
  refine ⟨fun L D hL3 hL18 hD1 hD4096 => ?_, fun hh => ⟨fun hend => ?_, fun b0 b1 h0 h1 => ?_⟩⟩
  · have hv := (valid_backref_iff L D).2 ⟨hL3, hL18, hD1, hD4096⟩
    have hexec {t : State} (h : _) : exec (.matchRef L D) s = .next t := execMatchRef_next_iff.2 ⟨hv, hdue, h⟩
    refine ⟨fun hfar => hexec (.inl ⟨hfar, rfl⟩), fun hnear hlong => hexec (.inr (.inl ⟨hnear, hlong, rfl⟩)),
      fun hnear hfits => ⟨_, hexec (.inr (.inr ⟨hnear, hfits, rfl⟩)), rfl, ?_, ?_, toNat_nbit_add_one hn⟩⟩
    · exact Nat.mod_eq_of_lt (by omega)
    · exact Nat.mod_eq_of_lt (by omega)
  · exact step_match_of_missing ⟨hb, hop, hh⟩ hd hn hk hend
  · rw [← payloadLength_eq, ← payloadDistance_eq]
    exact step_match_of_bytes ⟨hb, hop, hh⟩ hd hn hk h0 h1

/-! ### Copying -/

theorem outReadBack_eq {s : State} {d : Nat} (h : d ≤ s.out.length) :
    s.outReadBack d = s.out[s.out.length - d]? := if_pos h

theorem toNat_crem_sub_one {n : BitVec 5} (h : 1 ≤ n.toNat) : (n - 1).toNat = n.toNat - 1 := by
  rw [BitVec.toNat_sub_of_le (by simpa [BitVec.le_def] using h)]
  rfl

theorem crem_eq_one_iff {n : BitVec 5} : n = 1 ↔ n.toNat = 1 := BitVec.toNat_inj.symm

/-- Where a byte is left to copy and its source exists, COPY appends it (R157). -/
theorem exec_copy {s : State} (hb : s.blk = .busy) (hop : s.op = .decompress) (hd : s.dph = .copying)
    (hleft : 1 ≤ s.crem.toNat) (hD : 1 ≤ s.cdist.toNat) (hsrc : s.cdist.toNat ≤ s.out.length) :
    ∃ b, s.out[s.out.length - s.cdist.toNat]? = some b ∧
      exec .copy s = .next (if s.crem = 1 then boundary (copyByte b s) else copyByte b s) := by
  have hlt : s.out.length - s.cdist.toNat < s.out.length := by omega
  have hsource := List.getElem?_eq_getElem hlt
  have hne : s.crem ≠ 0 := fun h => by simp [h] at hleft
  exact ⟨_, hsource, execCopy_next_iff.2
    ⟨(decoderIn_iff s _).2 ⟨hb, hop, hd⟩, hne, _, (outReadBack_eq hsrc).trans hsource, rfl⟩⟩

/-- Settles O29: the copied byte, and the boundary written out where it is the last. -/
theorem copyStep : Obligations.CopyStep := by
  intro s hb hop hd hleft hD hsrc
  obtain ⟨b, hsource, hexec⟩ := exec_copy hb hop hd hleft hD hsrc
  refine ⟨b, hsource, ?_, toNat_crem_sub_one hleft⟩
  rw [hexec, copyStep_eq]
  simp only [boundary, copyByte, State.outAppend, List.length_append, List.length_singleton, crem_eq_one_iff, hd]

/-! ### Every step answers -/

/-- A match that is due fails one of its checks or starts its copy (R156). -/
theorem exec_matchRef_answers {s : State} {L D : Nat} (hv : (Token.backref L D).valid = true)
    (hdue : s.tokenDue true = true) : ∃ t, exec (.matchRef L D) s = .next t := by
  have hexec {t : State} (h : _) : exec (.matchRef L D) s = .next t := execMatchRef_next_iff.2 ⟨hv, hdue, h⟩
  obtain hfar | hnear := Nat.lt_or_ge s.out.length D
  · exact ⟨_, hexec (.inl ⟨hfar, rfl⟩)⟩
  · obtain hlong | hfits := Nat.lt_or_ge s.dsize.toNat (s.out.length + L)
    · exact ⟨_, hexec (.inr (.inl ⟨hnear, hlong, rfl⟩))⟩
    · exact ⟨_, hexec (.inr (.inr ⟨hnear, hfits, rfl⟩))⟩

/-- Where a token is due the step answers, its payload in the input or not. -/
theorem step_inGroup_answers {s : State} (hs : Decompressing s) (hd : s.dph = .inGroup) (hn : s.nbit.toNat < 8) :
    ∃ t, step s = .next t := by
  cases hk : flagBit s.flags s.nbit.toNat with
  | false =>
    obtain ⟨hexec, -, hstep⟩ := literalStep s hs.busy hs.op hd hn hk
    obtain ⟨hfetched, hend⟩ := hstep hs.quiet
    cases hbyte : s.inp[s.ip]? with
    | some b => exact ⟨_, (hfetched b hbyte).trans (hexec b)⟩
    | none => exact ⟨_, hend (List.getElem?_eq_none_iff.1 hbyte)⟩
  | true =>
    obtain hend | hlen := Nat.lt_or_ge (s.ip + 1) s.inp.length
    · have h0 := List.getElem?_eq_getElem (l := s.inp) (i := s.ip) (by omega)
      have h1 := List.getElem?_eq_getElem hend
      rw [step_match_of_bytes hs hd hn hk h0 h1]
      exact exec_matchRef_answers (valid_payload _ _) ((tokenDue_iff s true).2 ⟨hs.busy, hs.op, hd, hn, hk⟩)
    · exact ⟨_, step_match_of_missing hs hd hn hk hlen⟩

theorem Inv.step_decoder_answers {s : State} (hi : Inv s) (hs : Decompressing s) : ∃ t, step s = .next t := by
  have ok := hi.decoder hs.busy hs.op
  cases hd : s.dph with
  | expectHeader =>
    obtain ⟨-, hstep⟩ := headerStep s hs.busy hs.op hd
    obtain ⟨hfetched, hbad⟩ := hstep hs.quiet
    cases hread : readHeader s.cfg.tag s.inp with
    | ok size => exact ⟨_, hfetched size hread⟩
    | error e => exact ⟨_, hbad e hread⟩
  | expectFlagGroup =>
    obtain ⟨-, hstep⟩ := flagByteStep s hs.busy hs.op hd
    obtain ⟨hfetched, hend⟩ := hstep hs.quiet
    cases hbyte : s.inp[s.ip]? with
    | some f => exact ⟨_, hfetched f hbyte⟩
    | none => exact ⟨_, hend (List.getElem?_eq_none_iff.1 hbyte)⟩
  | inGroup =>
    simp only [State.decoderOk, hd] at ok
    obtain ⟨-, -, -, hn⟩ := ok
    exact step_inGroup_answers hs hd hn
  | copying =>
    simp only [State.decoderOk, hd] at ok
    obtain ⟨-, -, -, hleft, -, hD, -, hsrc, -⟩ := ok
    obtain ⟨b, -, hexec⟩ := exec_copy hs.busy hs.op hd hleft hD hsrc
    exact ⟨_, (step_copying hs hd).trans hexec⟩
  | done => exact ⟨_, step_done hs hd⟩
  | failed => exact ⟨_, step_failed hs hd⟩

theorem Inv.step_encoder_answers {s : State} (hi : Inv s) (hb : s.blk = .busy) (hop : s.op = .compress)
    (hh : s.host = []) : ∃ t, step s = .next t := by
  have ok := hi.encoder hb hop
  obtain ⟨-, hstart, hparse, hflush⟩ := stepRunsThePhaseSelectedStep s hb hh
  have hin {ph : EncPhase} (he : s.eph = ph) : s.encoderIn ph = true := (encoderIn_iff s ph).2 ⟨hb, hop, he⟩
  cases he : s.eph with
  | start =>
    rw [hstart hop he]
    obtain hlarge | hsize := Nat.lt_or_ge maxSize s.n
    · exact ⟨_, execEncStart_next_iff.2 ⟨hin he, .inl ⟨hlarge, rfl⟩⟩⟩
    · exact ⟨_, execEncStart_next_iff.2 ⟨hin he, .inr ⟨hsize, rfl⟩⟩⟩
  | parse =>
    obtain ⟨c, hc, hfit⟩ := choose_ok hi.cfg s.emode s.idx (ok.byteLeft he)
    rw [hparse hop he]
    exact ⟨_, execEncParse_next_iff.2 ⟨hin he, .inr (.inr ⟨c, c, hc, construct_of_valid hfit.1, rfl⟩)⟩⟩
  | flush =>
    rw [hflush hop he]
    exact ⟨_, execEncFlush_next_iff.2 ⟨hin he, rfl⟩⟩
  | done => exact ⟨_, step_completes hb hh (complete_some_iff.2 (.inr (.inr (.inl ⟨hop, he, rfl⟩))))⟩
  | failed => exact ⟨_, step_completes hb hh (complete_some_iff.2 (.inr (.inr (.inr ⟨hop, he, rfl⟩))))⟩

/-- Settles O50: an IDLE core waits, and under the invariant the running unit answers in each of its phases. -/
theorem everyStepAnswersUnderTheInvariant : Obligations.EveryStepAnswersUnderTheInvariant := by
  intro s hi hh
  cases hb : s.blk with
  | idle => exact ⟨s, by rw [step_eq_result, nextAction_idle hb hh]; rfl⟩
  | busy =>
    cases hop : s.op with
    | decompress => exact hi.step_decoder_answers ⟨hb, hop, hh⟩
    | compress => exact hi.step_encoder_answers hb hop hh

end Sys2Proof.Machine
end

section
/-! SUPPORT. Runs of the machine, and a whole match (42_lz77_decoder.md R157, R161, R167): the copy loop of DECODE, and the
copy steps that run it. -/

namespace Sys2Proof.Machine

/-! ### Runs -/

theorem run_of_step {s t : State} (h : step s = .next t) (k : Nat) :
    Sys2Proof.core.run (k + 1) s = Sys2Proof.core.run k t := by
  simp only [Host.Core.run, Sys2Proof.core, h]

/-- A run goes on from where a first part of it has come. -/
theorem run_add {j : Nat} {s t : State} (h : Sys2Proof.core.run j s = .next t) (k : Nat) :
    Sys2Proof.core.run (j + k) s = Sys2Proof.core.run k t := by
  induction j generalizing s with
  | zero => cases h; rw [Nat.zero_add]
  | succ j ih =>
    rw [Nat.add_right_comm]
    cases hstep : step s with
    | next u => rw [run_of_step hstep] at h ⊢; exact ih h
    | fault f => simp only [Host.Core.run, Sys2Proof.core, hstep] at h; cases h
    | refused r => simp only [Host.Core.run, Sys2Proof.core, hstep] at h; cases h

/-! ### The copy loop -/

theorem copyLoop_succ {D : Nat} (L : Nat) {out : ByteSeq} {b : Byte} (h : out[out.length - D]? = some b) :
    copyLoop D (L + 1) out = copyLoop D L (out ++ [b]) := by
  rw [copyLoop, h]
  rfl

theorem prefix_copyLoop (D L : Nat) (out : ByteSeq) : out <+: copyLoop D L out := by
  induction L generalizing out with
  | zero => exact List.prefix_rfl
  | succ L ih => exact (List.prefix_append ..).trans (ih _)

theorem getElem?_copyLoop_of_lt (D L : Nat) {out : ByteSeq} {a : Nat} (h : a < out.length) :
    (copyLoop D L out)[a]? = out[a]? := by
  obtain ⟨added, hadded⟩ := prefix_copyLoop D L out
  rw [← hadded, List.getElem?_append_left h]

/-- Every byte appended is the byte `D` before it, appended or not (R168). -/
theorem copyLoop_repeats {D L : Nat} {out : ByteSeq} (hD : 1 ≤ D) (hout : D ≤ out.length) {i : Nat}
    (hi : out.length ≤ i) (hlt : i < out.length + L) : (copyLoop D L out)[i]? = (copyLoop D L out)[i - D]? := by
  induction L generalizing out with
  | zero => omega
  | succ L ih =>
    have hsrc : out.length - D < out.length := by omega
    rw [copyLoop_succ L (List.getElem?_eq_getElem hsrc)]
    have hlen : (out ++ [out[out.length - D]]).length = out.length + 1 := List.length_append
    obtain rfl | hnext := Nat.eq_or_lt_of_le hi
    · rw [getElem?_copyLoop_of_lt D L (by omega), getElem?_copyLoop_of_lt D L (by omega), List.getElem?_concat_length,
        List.getElem?_append_left hsrc, List.getElem?_eq_getElem hsrc]
    · exact ih (by omega) (by omega) (by omega)

/-- The bytes appended are the `D`-periodic continuation of the last `D` (R167). -/
theorem getElem?_copyLoop_periodic {D L : Nat} {out : ByteSeq} (hD : 1 ≤ D) (hout : D ≤ out.length) (j : Nat)
    (hj : j < L) : (copyLoop D L out)[out.length + j]? = out[out.length - D + j % D]? := by
  induction j using Nat.strong_induction_on with
  | _ j ih =>
    rw [copyLoop_repeats hD hout (by omega) (by omega)]
    obtain hfirst | hlater := Nat.lt_or_ge j D
    · rw [Nat.mod_eq_of_lt hfirst, getElem?_copyLoop_of_lt D L (by omega), Nat.sub_add_comm hout]
    · rw [Nat.add_sub_assoc hlater, ih (j - D) (by omega) (by omega), Nat.mod_eq_sub_mod hlater]

/-- Where an input repeats itself at distance `D`, copying continues its start (R167). -/
theorem copyLoop_take {D L q : Nat} {input : ByteSeq} (hlen : q + L ≤ input.length)
    (hrep : ∀ j, j < L → input[q + j]? = input[q + j - D]?) (hD : 1 ≤ D) (hq : D ≤ q) :
    copyLoop D L (input.take q) = input.take (q + L) := by
  induction L generalizing q with
  | zero => rfl
  | succ L ih =>
    have hsource : (input.take q)[(input.take q).length - D]? = input[q]? := by
      rw [List.length_take_of_le (by omega), List.getElem?_take_of_lt (by omega)]
      exact (hrep 0 (Nat.succ_pos L)).symm
    have hrest : ∀ j, j < L → input[q + 1 + j]? = input[q + 1 + j - D]? := fun j hj => by
      rw [Nat.add_right_comm, Nat.add_assoc]
      exact hrep (j + 1) (by omega)
    rw [copyLoop, hsource, ← List.take_add_one, ih (by omega) hrest (by omega), Nat.add_right_comm, Nat.add_assoc]

/-! ### The copy steps -/

/-- The state a whole copy ends in. -/
def copied (s : State) : State :=
  boundary { s with out := copyLoop s.cdist.toNat s.crem.toNat s.out, crem := 0 }

/-- `crem` steps run the copy loop and end at the token's boundary (R157, R158). -/
theorem run_copying {s : State} (hs : Decompressing s) (hd : s.dph = .copying) (hleft : 1 ≤ s.crem.toNat)
    (hD : 1 ≤ s.cdist.toNat) (hsrc : s.cdist.toNat ≤ s.out.length) :
    Sys2Proof.core.run s.crem.toNat s = .next (copied s) := by
  obtain ⟨L, hL⟩ : ∃ L, s.crem.toNat = L + 1 := ⟨s.crem.toNat - 1, by omega⟩
  induction L generalizing s with
  | zero =>
    obtain ⟨b, hsource, hexec⟩ := exec_copy hs.busy hs.op hd hleft hD hsrc
    have hone : s.crem = 1 := crem_eq_one_iff.2 hL
    rw [if_pos hone] at hexec
    rw [hL, run_of_step ((step_copying hs hd).trans hexec), copied, hL, copyLoop_succ 0 hsource]
    simp only [copyByte, hone]
    rfl
  | succ L ih =>
    obtain ⟨b, hsource, hexec⟩ := exec_copy hs.busy hs.op hd hleft hD hsrc
    have hrem : (copyByte b s).crem.toNat = L + 1 := (toNat_crem_sub_one hleft).trans (by omega)
    rw [if_neg (by rw [crem_eq_one_iff]; omega)] at hexec
    have hrest := ih (s := copyByte b s) ⟨hs.busy, hs.op, hs.quiet⟩ hd (by omega) hD (by simp; omega) hrem
    rw [hrem] at hrest
    rw [hL, run_of_step ((step_copying hs hd).trans hexec), hrest, copied, copied, hL, hrem, copyLoop_succ _ hsource]
    rfl

/-- Settles O31: the copy steps run the copy loop, which repeats the last `D` bytes. -/
theorem wholeCopyIsThePeriodicContinuation : Obligations.WholeCopyIsThePeriodicContinuation := by
  rintro s L D hb hop hd hh rfl rfl hL hD hsrc
  refine ⟨copied s, run_copying ⟨hb, hop, hh⟩ hd hL hD hsrc, length_copyLoop _ hD hsrc,
    fun a ha => getElem?_copyLoop_of_lt _ _ ha, getElem?_copyLoop_periodic hD hsrc, fun input hstart hlen hrep => ?_⟩
  have hcopy := copyLoop_take hlen hrep hD hsrc
  rwa [← hstart] at hcopy

end Sys2Proof.Machine
end

section
/-! SUPPORT. DECODE (42_lz77_decoder.md R161) token by token: what its inner loop reads next, and that bytes after the
stream do not change it (R165). -/

namespace Sys2Proof.Machine

/-! ### The next token of a group -/

theorem decodeGroup_literal {input : ByteSeq} {dsize : Nat} {F : Byte} {left ip : Nat} {out : ByteSeq} {b : Byte}
    (hpos : out.length < dsize) (hk : flagBit F (7 - left) = false) (hb : input[ip]? = some b) :
    decodeGroup input dsize F (left + 1) (out, ip) = decodeGroup input dsize F left (out ++ [b], ip + 1) :=
  decodeGroup_token (t := .literal b) (tokensFit_literal_iff.2 hpos) hk (drop_of_getElem? hb)

theorem decodeGroup_match {input : ByteSeq} {dsize : Nat} {F : Byte} {left ip : Nat} {out : ByteSeq} {b0 b1 : Byte}
    (hk : flagBit F (7 - left) = true) (h0 : input[ip]? = some b0) (h1 : input[ip + 1]? = some b1)
    (hnear : payloadDistance b0 b1 ≤ out.length) (hfits : out.length + payloadLength b0 ≤ dsize) :
    decodeGroup input dsize F (left + 1) (out, ip) =
      decodeGroup input dsize F left (copyLoop (payloadDistance b0 b1) (payloadLength b0) out, ip + 2) := by
  have hpack := packToken_payload b0 b1
  have hbytes : input.drop ip = packToken (.backref (payloadLength b0) (payloadDistance b0 b1)) ++
      input.drop (ip + 1 + 1) := by
    rw [hpack, drop_of_getElem? h0, drop_of_getElem? h1]
    rfl
  rw [decodeGroup_token (tokensFit_backref_iff.2 ⟨valid_payload b0 b1, hfits, hnear⟩) hk hbytes, hpack]
  rfl

/-- The errors a token can meet (R155, R156, R162, R163). -/
inductive TokenFails (input : ByteSeq) (dsize : Nat) (out : ByteSeq) (ip : Nat) : Bool → DecodeError → Prop
  | noLiteral (missing : input.length ≤ ip) : TokenFails input dsize out ip false .truncated
  | noMatch (missing : input.length ≤ ip + 1) : TokenFails input dsize out ip true .truncated
  | badDistance {b0 b1 : Byte} (first : input[ip]? = some b0) (second : input[ip + 1]? = some b1)
      (far : out.length < payloadDistance b0 b1) : TokenFails input dsize out ip true .badDistance
  | sizeMismatch {b0 b1 : Byte} (first : input[ip]? = some b0) (second : input[ip + 1]? = some b1)
      (near : payloadDistance b0 b1 ≤ out.length) (long : dsize < out.length + payloadLength b0) :
      TokenFails input dsize out ip true .sizeMismatch

theorem decodeGroup_fails {input : ByteSeq} {dsize : Nat} {F : Byte} {left ip : Nat} {out : ByteSeq} {e : DecodeError}
    (hpos : out.length < dsize) (h : TokenFails input dsize out ip (flagBit F (7 - left)) e) :
    decodeGroup input dsize F (left + 1) (out, ip) = .error e := by
  rw [decodeGroup, if_pos hpos]
  generalize flagBit F (7 - left) = k at h
  cases h with
  | noLiteral missing => rw [List.getElem?_eq_none missing]
  | noMatch missing => rw [List.getElem?_eq_none missing]; cases input[ip]? <;> rfl
  | badDistance first second far => rw [first, second]; exact if_pos far
  | sizeMismatch first second near long =>
    rw [first, second]
    simp only [if_neg (Nat.not_lt.2 near), if_pos long]

/-- Everything the next token of a kind can meet: its bytes describe a token that fits, or it fails. -/
inductive TokenRead (input : ByteSeq) (dsize : Nat) (out : ByteSeq) (ip : Nat) : Bool → Prop
  | literal {b : Byte} (first : input[ip]? = some b) : TokenRead input dsize out ip false
  | backref {b0 b1 : Byte} (first : input[ip]? = some b0) (second : input[ip + 1]? = some b1)
      (near : payloadDistance b0 b1 ≤ out.length) (fits : out.length + payloadLength b0 ≤ dsize) :
      TokenRead input dsize out ip true
  | fails {k : Bool} {e : DecodeError} (error : TokenFails input dsize out ip k e) : TokenRead input dsize out ip k

theorem tokenRead (input : ByteSeq) (dsize : Nat) (out : ByteSeq) (ip : Nat) (k : Bool) :
    TokenRead input dsize out ip k := by
  cases k with
  | false =>
    obtain hin | hend := Nat.lt_or_ge ip input.length
    · exact .literal (List.getElem?_eq_getElem hin)
    · exact .fails (.noLiteral hend)
  | true =>
    obtain hin | hend := Nat.lt_or_ge (ip + 1) input.length
    · have h0 := List.getElem?_eq_getElem (l := input) (i := ip) (by omega)
      have h1 := List.getElem?_eq_getElem hin
      obtain hfar | hnear := Nat.lt_or_ge out.length (payloadDistance input[ip] input[ip + 1])
      · exact .fails (.badDistance h0 h1 hfar)
      · obtain hlong | hfits := Nat.lt_or_ge dsize (out.length + payloadLength input[ip])
        · exact .fails (.sizeMismatch h0 h1 hnear hlong)
        · exact .backref h0 h1 hnear hfits
    · exact .fails (.noMatch hend)

/-! ### Bytes after the stream -/

theorem getElem?_append_of_some {input : ByteSeq} {i : Nat} {b : Byte} (h : input[i]? = some b) (trail : ByteSeq) :
    (input ++ trail)[i]? = some b := by
  obtain ⟨hi, -⟩ := List.getElem?_eq_some_iff.1 h
  rw [List.getElem?_append_left hi, h]

theorem readHeader_append {tag : Byte} {input : ByteSeq} {size : BitVec 24} (h : readHeader tag input = .ok size)
    (trail : ByteSeq) : readHeader tag (input ++ trail) = .ok size := by
  match input, readHeader_ok_length h with
  | _ :: _ :: _ :: _ :: _, _ => exact h

theorem decodeGroup_append {input : ByteSeq} {dsize : Nat} {F : Byte} {left ip : Nat} {out : ByteSeq}
    {st : ByteSeq × Nat} (h : decodeGroup input dsize F left (out, ip) = .ok st) (trail : ByteSeq) :
    decodeGroup (input ++ trail) dsize F left (out, ip) = .ok st := by
  induction left generalizing out ip with
  | zero => exact h
  | succ left ih =>
    obtain hpos | hdone := Nat.lt_or_ge out.length dsize
    · have hread := tokenRead input dsize out ip (flagBit F (7 - left))
      generalize hk : flagBit F (7 - left) = k at hread
      cases hread with
      | literal first =>
        rw [decodeGroup_literal hpos hk first] at h
        rw [decodeGroup_literal hpos hk (getElem?_append_of_some first trail)]
        exact ih h
      | backref first second near fits =>
        rw [decodeGroup_match hk first second near fits] at h
        rw [decodeGroup_match hk (getElem?_append_of_some first trail) (getElem?_append_of_some second trail) near fits]
        exact ih h
      | fails error =>
        rw [decodeGroup_fails hpos (hk ▸ error)] at h
        cases h
    · rw [decodeGroup_of_complete hdone] at h ⊢
      exact h

theorem decodeGroups_of_complete {dsize : Nat} {out : ByteSeq} (h : dsize ≤ out.length) (input : ByteSeq)
    (fuel ip : Nat) : decodeGroups input dsize fuel (out, ip) = .ok (out, ip) := by
  cases fuel with
  | zero => rfl
  | succ fuel => exact if_neg (Nat.not_lt.2 h)

theorem decodeGroups_flagByte {input : ByteSeq} {dsize fuel ip : Nat} {out : ByteSeq} {F : Byte}
    (hpos : out.length < dsize) (hF : input[ip]? = some F) :
    decodeGroups input dsize (fuel + 1) (out, ip) =
      (decodeGroup input dsize F 8 (out, ip + 1)).bind (decodeGroups input dsize fuel) := by
  simp only [decodeGroups, if_pos hpos, hF]
  cases decodeGroup input dsize F 8 (out, ip + 1) <;> rfl

theorem decodeGroups_noFlagByte {input : ByteSeq} {dsize ip : Nat} {out : ByteSeq} (hpos : out.length < dsize)
    (hend : input.length ≤ ip) (fuel : Nat) : decodeGroups input dsize (fuel + 1) (out, ip) = .error .truncated := by
  rw [decodeGroups, if_pos hpos, List.getElem?_eq_none hend]

theorem decodeGroups_append {input : ByteSeq} {dsize fuel : Nat} {st st' : ByteSeq × Nat}
    (h : decodeGroups input dsize fuel st = .ok st') (trail : ByteSeq) :
    decodeGroups (input ++ trail) dsize fuel st = .ok st' := by
  induction fuel generalizing st with
  | zero => exact h
  | succ fuel ih =>
    obtain ⟨out, ip⟩ := st
    obtain hpos | hdone := Nat.lt_or_ge out.length dsize
    · cases hF : input[ip]? with
      | none =>
        rw [decodeGroups_noFlagByte hpos (List.getElem?_eq_none_iff.1 hF)] at h
        cases h
      | some F =>
        rw [decodeGroups_flagByte hpos hF] at h
        rw [decodeGroups_flagByte hpos (getElem?_append_of_some hF trail)]
        cases hgroup : decodeGroup input dsize F 8 (out, ip + 1) with
        | error e => rw [hgroup] at h; cases h
        | ok mid =>
          rw [hgroup] at h
          rw [decodeGroup_append hgroup trail]
          exact ih h
    · rw [decodeGroups_of_complete hdone] at h ⊢
      exact h

/-- DECODE of an input whose header is read. -/
theorem decodeStream_of_header {tag : Byte} {input : ByteSeq} {size : BitVec 24} (h : readHeader tag input = .ok size) :
    decodeStream tag input = (decodeGroups input size.toNat size.toNat ([], 4)).map Prod.fst := by
  simp only [decodeStream, h]
  cases decodeGroups input size.toNat size.toNat ([], 4) <;> rfl

theorem decodeStream_of_badHeader {tag : Byte} {input : ByteSeq} {e : DecodeError}
    (h : readHeader tag input = .error e) : decodeStream tag input = .error e := by
  rw [decodeStream, h]

/-- Settles O59: an answer has read no byte past the input, so it reads the same bytes of a longer one. -/
theorem trailingBytesAreIgnored : Obligations.TrailingBytesAreIgnored := by
  intro tag input trail out h
  cases hread : readHeader tag input with
  | error e => rw [decodeStream_of_badHeader hread] at h; cases h
  | ok size =>
    rw [decodeStream_of_header hread] at h
    rw [decodeStream_of_header (readHeader_append hread trail)]
    cases hgroups : decodeGroups input size.toNat size.toNat ([], 4) with
    | error e => rw [hgroups] at h; cases h
    | ok st => rw [decodeGroups_append hgroups trail, ← hgroups, h]

end Sys2Proof.Machine
end

section
/-! SUPPORT. DECOMPRESS by its steps (42_lz77_decoder.md R161, R166): how a command ends, one token as a run of steps, and
the steps of the machine against the loops of DECODE. -/

namespace Sys2Proof.Machine

/-! ### Endings -/

theorem endsWith_of_run {j n : Nat} {r : Status × ByteSeq} {s t : State} (h : Sys2Proof.core.run j s = .next t)
    (ht : endsWith n r t) : endsWith (j + n) r s := by
  obtain ⟨k, u, hk, hrun, hend⟩ := ht
  exact ⟨j + k, u, Nat.add_le_add_left hk j, (run_add h k).trans hrun, hend⟩

theorem endsWith_of_step {n : Nat} {r : Status × ByteSeq} {s t : State} (h : step s = .next t)
    (ht : endsWith n r t) : endsWith (1 + n) r s :=
  endsWith_of_run (run_of_step h 0) ht

theorem endsWith_mono {m n : Nat} {r : Status × ByteSeq} {s : State} (hmn : m ≤ n) (h : endsWith m r s) :
    endsWith n r s := by
  obtain ⟨k, t, hk, hend⟩ := h
  exact ⟨k, t, hk.trans hmn, hend⟩

theorem endsWith_idle {r : Status × ByteSeq} {s : State} (hb : s.blk = .idle) (hv : s.resultValid = true)
    (hr : (s.status, s.output) = r) : endsWith 0 r s := ⟨0, s, Nat.le_refl 0, rfl, hb, hv, hr⟩

theorem endsWith_done {s : State} (hs : Decompressing s) (hd : s.dph = .done) :
    endsWith 1 (outcome .dec (.ok s.out)) s :=
  endsWith_of_step (step_done hs hd) (endsWith_idle rfl rfl rfl)

/-- A raised error ends the command with it (60_exceptions.md R266, R272). -/
theorem endsWith_of_raise {s u : State} {e : DecodeError} (h : step s = .next (raise (.dec e) u))
    (hu : Decompressing u) : endsWith 2 (outcome .dec (.error e)) s :=
  endsWith_of_step h (endsWith_of_step (step_failed ⟨hu.busy, hu.op, hu.quiet⟩ rfl) (endsWith_idle rfl rfl rfl))

/-! ### One token -/

/-- A running decoder between two elements behind the header, `left` flag bits of its group unread. -/
structure BetweenElements (left : Nat) (s : State) : Prop extends Decompressing s where
  within : s.out.length ≤ s.dsize.toNat
  phase : s.dph = if s.out.length = s.dsize.toNat then .done else if left = 0 then .expectFlagGroup else .inGroup
  bits : left = 0 ∨ s.nbit.toNat + left = 8

theorem betweenElements_boundary {left : Nat} {s : State} (hs : Decompressing s) (hout : s.out.length ≤ s.dsize.toNat)
    (hbits : s.nbit.toNat + left = 8) : BetweenElements left (boundary s) := by
  refine ⟨⟨hs.busy, hs.op, hs.quiet⟩, hout, ?_, .inr hbits⟩
  have hzero : s.nbit.toNat = 8 ↔ left = 0 := by omega
  simp only [boundary, hzero]

/-- Behind the header no flag bit is known (R152). -/
theorem betweenElements_header {s : State} (hs : Decompressing s) (hout : s.out = []) (size : BitVec 24) :
    BetweenElements 0 { s with dsize := size, ip := 4, dph := if size = 0 then .done else .expectFlagGroup } := by
  have hzero : size = 0 ↔ 0 = size.toNat := by rw [← BitVec.toNat_inj]; exact eq_comm
  refine ⟨⟨hs.busy, hs.op, hs.quiet⟩, ?_, ?_, .inl rfl⟩
  · simp only [hout, List.length_nil, Nat.zero_le]
  · simp only [hout, List.length_nil, hzero, if_true]

/-- From `s` the machine has read one token and stands at `t`, at two steps a byte or faster, as the inner loop of DECODE
has. -/
structure TokenRun (left : Nat) (s t : State) : Prop where
  ends_between : BetweenElements left t
  grows : s.out.length < t.out.length
  pace : ∃ k, k ≤ 2 * (t.out.length - s.out.length) ∧ Sys2Proof.core.run k s = .next t
  keeps : t.inp = s.inp ∧ t.dsize = s.dsize ∧ t.flags = s.flags
  decodes : decodeGroup s.inp s.dsize.toNat s.flags (left + 1) (s.out, s.ip) =
    decodeGroup s.inp s.dsize.toNat s.flags left (t.out, t.ip)

/-- A token is due: not the end, and a flag bit is unread; `left` more follow it. -/
structure BeforeToken (left : Nat) (s : State) : Prop extends BetweenElements (left + 1) s where
  unfinished : s.out.length < s.dsize.toNat

theorem BeforeToken.inGroup {left : Nat} {s : State} (h : BeforeToken left s) : s.dph = .inGroup := by
  rw [h.phase, if_neg (Nat.ne_of_lt h.unfinished), if_neg (Nat.succ_ne_zero left)]

theorem BeforeToken.nbit_eq {left : Nat} {s : State} (h : BeforeToken left s) : s.nbit.toNat = 7 - left := by
  have := h.bits
  omega

theorem BeforeToken.nbit_lt {left : Nat} {s : State} (h : BeforeToken left s) : s.nbit.toNat < 8 :=
  h.nbit_eq ▸ Nat.lt_succ_of_le (Nat.sub_le 7 left)

/-- The flag bit of the machine is that of the inner loop of DECODE. -/
theorem BeforeToken.flag {left : Nat} {s : State} (h : BeforeToken left s) :
    flagBit s.flags s.nbit.toNat = flagBit s.flags (7 - left) := by
  rw [h.nbit_eq]

theorem BeforeToken.due {left : Nat} {s : State} {k : Bool} (h : BeforeToken left s)
    (hk : flagBit s.flags (7 - left) = k) : s.tokenDue k = true :=
  (tokenDue_iff s k).2 ⟨h.busy, h.op, h.inGroup, h.nbit_lt, h.flag.trans hk⟩

theorem BeforeToken.step_match {left : Nat} {s : State} {b0 b1 : Byte} (h : BeforeToken left s)
    (hk : flagBit s.flags (7 - left) = true) (h0 : s.inp[s.ip]? = some b0) (h1 : s.inp[s.ip + 1]? = some b1) :
    step s = exec (.matchRef (payloadLength b0) (payloadDistance b0 b1)) s :=
  step_match_of_bytes h.toDecompressing h.inGroup h.nbit_lt (h.flag.trans hk) h0 h1

/-- A token read ends at a boundary of its group. -/
theorem BeforeToken.endsBetween {left : Nat} {s t : State} (h : BeforeToken left s) (ht : Decompressing t)
    (hout : t.out.length ≤ t.dsize.toNat) (hnbit : t.nbit = s.nbit + 1) : BetweenElements left (boundary t) := by
  refine betweenElements_boundary ht hout ?_
  have := h.bits
  rw [hnbit, toNat_nbit_add_one h.nbit_lt]
  omega

/-- A literal is one step (R155). -/
theorem BeforeToken.literal {left : Nat} {s : State} {b : Byte} (h : BeforeToken left s)
    (hk : flagBit s.flags (7 - left) = false) (hb : s.inp[s.ip]? = some b) :
    TokenRun left s (boundary (State.countToken (State.outAppend { s with ip := s.ip + 1 } b))) := by
  obtain ⟨-, -, hstep⟩ := literalStep s h.busy h.op h.inGroup h.nbit_lt (h.flag.trans hk)
  obtain ⟨hfetched, -⟩ := hstep h.quiet
  have hnext := (hfetched b hb).trans (execLit_next_iff.2 ⟨h.due hk, rfl⟩)
  have hlen : (s.out ++ [b]).length = s.out.length + 1 := List.length_append
  refine ⟨h.endsBetween ⟨h.busy, h.op, h.quiet⟩ (hlen.trans_le h.unfinished) rfl, hlen.ge,
    ⟨1, ?_, run_of_step hnext 0⟩, ⟨rfl, rfl, rfl⟩, decodeGroup_literal h.unfinished hk hb⟩
  change 1 ≤ 2 * ((s.out ++ [b]).length - s.out.length)
  omega

theorem toNat_startCopy {L D : Nat} (hv : (Token.backref L D).valid = true) (s : State) :
    (startCopy L D s).crem.toNat = L ∧ (startCopy L D s).cdist.toNat = D := by
  obtain ⟨-, hL, -, hD⟩ := (valid_backref_iff L D).1 hv
  exact ⟨Nat.mod_eq_of_lt (by omega), Nat.mod_eq_of_lt (by omega)⟩

/-- A match is the step that starts its copy and one step a byte (R156, R157). -/
theorem BeforeToken.backref {left : Nat} {s : State} {b0 b1 : Byte} (h : BeforeToken left s)
    (hk : flagBit s.flags (7 - left) = true) (h0 : s.inp[s.ip]? = some b0) (h1 : s.inp[s.ip + 1]? = some b1)
    (hnear : payloadDistance b0 b1 ≤ s.out.length) (hfits : s.out.length + payloadLength b0 ≤ s.dsize.toNat) :
    TokenRun left s
      (copied (startCopy (payloadLength b0) (payloadDistance b0 b1) { s with ip := s.ip + 2 })) := by
  have hv := valid_payload b0 b1
  have hnext := (h.step_match hk h0 h1).trans
    (execMatchRef_next_iff.2 ⟨hv, h.due hk, .inr (.inr ⟨hnear, hfits, rfl⟩)⟩)
  obtain ⟨hL3, -, hD1, -⟩ := (valid_backref_iff _ _).1 hv
  obtain ⟨hcrem, hcdist⟩ := toNat_startCopy hv { s with ip := s.ip + 2 }
  have hrun := run_copying (s := startCopy (payloadLength b0) (payloadDistance b0 b1) { s with ip := s.ip + 2 })
    ⟨h.busy, h.op, h.quiet⟩ rfl (by omega) (by omega) (hcdist.trans_le hnear)
  have hlen := length_copyLoop (payloadLength b0) hD1 hnear
  rw [copied, hcrem, hcdist] at hrun ⊢
  refine ⟨h.endsBetween ⟨h.busy, h.op, h.quiet⟩ (hlen.trans_le hfits) rfl, Nat.lt_of_lt_of_eq (by omega) hlen.symm,
    ⟨1 + payloadLength b0, ?_, (run_add (run_of_step hnext 0) _).trans hrun⟩, ⟨rfl, rfl, rfl⟩,
    decodeGroup_match hk h0 h1 hnear hfits⟩
  change _ ≤ 2 * ((copyLoop (payloadDistance b0 b1) (payloadLength b0) s.out).length - s.out.length)
  omega

/-- A token that fails ends the command with its error. -/
theorem BeforeToken.fails {left : Nat} {s : State} {e : DecodeError} (h : BeforeToken left s)
    (he : TokenFails s.inp s.dsize.toNat s.out s.ip (flagBit s.flags (7 - left)) e) :
    endsWith 2 (outcome .dec (.error e)) s := by
  generalize hk : flagBit s.flags (7 - left) = k at he
  have hk' := h.flag.trans hk
  cases he with
  | noLiteral missing =>
    obtain ⟨-, -, hstep⟩ := literalStep s h.busy h.op h.inGroup h.nbit_lt hk'
    exact endsWith_of_raise ((hstep h.quiet).2 missing) h.toDecompressing
  | noMatch missing =>
    exact endsWith_of_raise (step_match_of_missing h.toDecompressing h.inGroup h.nbit_lt hk' missing) h.toDecompressing
  | badDistance first second far =>
    have hnext := (h.step_match hk first second).trans
      (execMatchRef_next_iff.2 ⟨valid_payload _ _, h.due hk, .inl ⟨far, rfl⟩⟩)
    exact endsWith_of_raise hnext ⟨h.busy, h.op, h.quiet⟩
  | sizeMismatch first second near long =>
    have hnext := (h.step_match hk first second).trans
      (execMatchRef_next_iff.2 ⟨valid_payload _ _, h.due hk, .inr (.inl ⟨near, long, rfl⟩)⟩)
    exact endsWith_of_raise hnext ⟨h.busy, h.op, h.quiet⟩

/-! ### The steps against the loops of DECODE -/

/-- What DECODE still answers where `left` flag bits of `F` are unread and `fuel` groups may follow. -/
def decodeRest (input : ByteSeq) (dsize fuel : Nat) (F : Byte) (left : Nat) (st : ByteSeq × Nat) :
    Except DecodeError ByteSeq :=
  ((decodeGroup input dsize F left st).bind (decodeGroups input dsize fuel)).map Prod.fst

theorem decodeRest_of_complete {dsize : Nat} {out : ByteSeq} (h : dsize ≤ out.length) (input : ByteSeq) (F : Byte)
    (fuel left ip : Nat) : decodeRest input dsize fuel F left (out, ip) = .ok out := by
  rw [decodeRest, decodeGroup_of_complete h]
  exact congrArg (Except.map Prod.fst) (decodeGroups_of_complete h input fuel ip)

/-- The steps R166 grants where `remaining` bytes are to come and `left` flag bits are unread: two a byte, and a flag byte
for every 8 tokens that may follow those. -/
def stepBound (left remaining : Nat) : Nat := 2 * remaining + (remaining - left + 7) / 8

/-- From every state between two elements, with fuel for the groups to come, the machine ends with what DECODE still
answers. -/
def EndsWithDecode (fuel left : Nat) : Prop :=
  ∀ s : State, BetweenElements left s → s.dsize.toNat ≤ s.out.length + fuel + left →
    endsWith (stepBound left (s.dsize.toNat - s.out.length) + 1)
      (outcome .dec (decodeRest s.inp s.dsize.toNat fuel s.flags left (s.out, s.ip))) s

theorem endsWith_of_complete {left : Nat} {s : State} (h : BetweenElements left s) (hend : s.dsize.toNat ≤ s.out.length)
    (fuel : Nat) :
    endsWith (stepBound left (s.dsize.toNat - s.out.length) + 1)
      (outcome .dec (decodeRest s.inp s.dsize.toNat fuel s.flags left (s.out, s.ip))) s := by
  have hd : s.dph = .done := by rw [h.phase, if_pos (Nat.le_antisymm h.within hend)]
  rw [decodeRest_of_complete hend]
  exact endsWith_mono (Nat.le_add_left 1 _) (endsWith_done h.toDecompressing hd)

/-- One token read leaves the rest to the next state. -/
theorem endsWith_of_tokenRun {fuel left : Nat} {s t : State} (h : TokenRun left s t)
    (hfuel : s.dsize.toNat ≤ s.out.length + fuel + (left + 1)) (ih : EndsWithDecode fuel left) :
    endsWith (stepBound (left + 1) (s.dsize.toNat - s.out.length) + 1)
      (outcome .dec (decodeRest s.inp s.dsize.toNat fuel s.flags (left + 1) (s.out, s.ip))) s := by
  obtain ⟨hat, hgrows, ⟨k, hk, hrun⟩, ⟨hinp, hdsize, hflags⟩, hdecodes⟩ := h
  have hwithin := hat.within
  have hrest := ih t hat (by rw [hdsize]; omega)
  rw [hinp, hdsize, hflags] at hrest
  rw [hdsize] at hwithin
  rw [decodeRest, hdecodes]
  refine endsWith_mono ?_ (endsWith_of_run hrun hrest)
  unfold stepBound
  omega

theorem endsWithDecode_token {fuel left : Nat} (ih : EndsWithDecode fuel left) : EndsWithDecode fuel (left + 1) := by
  intro s hat hfuel
  obtain hpos | hend := Nat.lt_or_ge s.out.length s.dsize.toNat
  · have hdue : BeforeToken left s := ⟨hat, hpos⟩
    have hread := tokenRead s.inp s.dsize.toNat s.out s.ip (flagBit s.flags (7 - left))
    generalize hk : flagBit s.flags (7 - left) = kind at hread
    cases hread with
    | literal first => exact endsWith_of_tokenRun (hdue.literal hk first) hfuel ih
    | backref first second near fits =>
      exact endsWith_of_tokenRun (hdue.backref hk first second near fits) hfuel ih
    | fails error =>
      rw [decodeRest, decodeGroup_fails hpos (hk ▸ error)]
      refine endsWith_mono ?_ (hdue.fails (hk ▸ error))
      unfold stepBound
      omega
  · exact endsWith_of_complete hat hend fuel

/-- A group begins with one flag-byte step (R153). -/
theorem endsWithDecode_flagByte {fuel : Nat} (ih : EndsWithDecode fuel 8) : EndsWithDecode (fuel + 1) 0 := by
  intro s hat hfuel
  obtain hpos | hend := Nat.lt_or_ge s.out.length s.dsize.toNat
  · have hd : s.dph = .expectFlagGroup := by rw [hat.phase, if_neg (Nat.ne_of_lt hpos), if_pos rfl]
    obtain ⟨-, hstep⟩ := flagByteStep s hat.busy hat.op hd
    obtain ⟨hfetched, hmissing⟩ := hstep hat.quiet
    cases hF : s.inp[s.ip]? with
    | none =>
      have hend := List.getElem?_eq_none_iff.1 hF
      have herror : decodeRest s.inp s.dsize.toNat (fuel + 1) s.flags 0 (s.out, s.ip) = .error .truncated :=
        congrArg (Except.map Prod.fst) (decodeGroups_noFlagByte hpos hend fuel)
      rw [herror]
      refine endsWith_mono ?_ (endsWith_of_raise (hmissing hend) hat.toDecompressing)
      unfold stepBound
      omega
    | some F =>
      have hnext := hfetched F hF
      have hat' : BetweenElements 8 { s with flags := F, ip := s.ip + 1, nbit := 0, dph := .inGroup } :=
        ⟨⟨hat.busy, hat.op, hat.quiet⟩, hat.within, (if_neg (Nat.ne_of_lt hpos)).symm, .inr rfl⟩
      have hgroup : decodeRest s.inp s.dsize.toNat (fuel + 1) s.flags 0 (s.out, s.ip) =
          decodeRest s.inp s.dsize.toNat fuel F 8 (s.out, s.ip + 1) :=
        congrArg (Except.map Prod.fst) (decodeGroups_flagByte hpos hF)
      rw [hgroup]
      refine endsWith_mono ?_ (endsWith_of_step hnext (ih _ hat' (by change s.dsize.toNat ≤ s.out.length + _ + _; omega)))
      change 1 + (stepBound 8 (s.dsize.toNat - s.out.length) + 1) ≤ _
      unfold stepBound
      omega
  · exact endsWith_of_complete hat hend (fuel + 1)

/-- The machine ends with what DECODE answers: an induction over the groups, and over the tokens of each. -/
theorem endsWithDecode (fuel left : Nat) : EndsWithDecode fuel left := by
  have tokens {fuel : Nat} (hgroup : EndsWithDecode fuel 0) (left : Nat) : EndsWithDecode fuel left := by
    induction left with
    | zero => exact hgroup
    | succ left ih => exact endsWithDecode_token ih
  induction fuel generalizing left with
  | zero => exact tokens (fun s hat hfuel => endsWith_of_complete hat hfuel 0) left
  | succ fuel ih => exact tokens (endsWithDecode_flagByte (ih 8)) left

/-- Settles O54: the header step, then the groups, the fuel of DECODE being enough for them. -/
theorem decompressEndsWithDecode : Obligations.DecompressEndsWithDecode := by
  intro s m input hb hlegal hh
  refine ⟨started .decompress m input s, issue_next_iff.2 ⟨hb, hlegal, rfl⟩, ?_⟩
  obtain ⟨-, hstep⟩ := headerStep (started .decompress m input s) rfl rfl rfl
  obtain ⟨hfetched, hbad⟩ := hstep hh
  cases hread : readHeader s.cfg.tag input with
  | error e =>
    rw [decodeStream_of_badHeader hread]
    exact endsWith_of_raise (hbad e hread) ⟨rfl, rfl, hh⟩
  | ok size =>
    have hat := betweenElements_header (s := started .decompress m input s) ⟨rfl, rfl, hh⟩ rfl size
    have hrest := endsWithDecode size.toNat 0 _ hat (Nat.le_add_left _ 0)
    rw [decodeStream_of_header hread]
    refine endsWith_mono ?_ (endsWith_of_step (hfetched size hread) hrest)
    change 1 + (stepBound 0 (size.toNat - 0) + 1) ≤ 1 + (size.toNat + 7) / 8 + 2 * size.toNat + 1
    unfold stepBound
    omega

end Sys2Proof.Machine
end

section
/-! SUPPORT. What the match finder answers (43_lz77_match_finder.md): MLEN is a greatest length, the exhaustive search
finds the longest match and the nearest of those, and copying the match of either search reproduces the input. -/

namespace Sys2Proof.Machine

/-! ### Match lengths -/

/-- The loop extends a length already matched to the greatest one (R182). -/
theorem isMatchLength_mlenFrom {input : ByteSeq} {p D L : Nat} (fuel : Nat)
    (hmatched : ∀ i, i < L → input[p + i]? = input[p + i - D]?) :
    isMatchLength input p D (L + fuel) (mlenFrom input p D fuel L) := by
  induction fuel generalizing L with
  | zero => exact ⟨Nat.le_refl L, hmatched, fun h => absurd h (Nat.lt_irrefl L)⟩
  | succ fuel ih =>
    unfold mlenFrom
    split
    · next heq =>
      rw [← Nat.add_assoc, Nat.add_right_comm]
      refine ih fun i hi => ?_
      obtain hlt | rfl := Nat.lt_succ_iff_lt_or_eq.1 hi
      · exact hmatched i hlt
      · exact heq
    · next hne => exact ⟨Nat.le_add_right .., hmatched, fun _ => hne⟩

theorem isMatchLength_mlen (input : ByteSeq) (p D maxL : Nat) : isMatchLength input p D maxL (mlen input p D maxL) := by
  simpa only [mlen, Nat.zero_add] using isMatchLength_mlenFrom (L := 0) maxL fun i hi => absurd hi (Nat.not_lt_zero i)

/-- A shorter length would stop where the longer one still matches. -/
theorem isMatchLength_le {input : ByteSeq} {p D maxL L L' : Nat} (h : isMatchLength input p D maxL L)
    (h' : isMatchLength input p D maxL L') : L ≤ L' := by
  obtain ⟨hle, hmatched, -⟩ := h
  obtain ⟨-, -, hstop⟩ := h'
  by_contra hlt
  exact hstop (by omega) (hmatched L' (by omega))

/-- Settles O19: the loop answers a greatest length, and there is only one. -/
theorem matchLengthIsGreatest : Obligations.MatchLengthIsGreatest := by
  intro input p D maxL L
  have hmlen := isMatchLength_mlen input p D maxL
  constructor
  · rintro rfl
    exact hmlen
  · exact fun h => Nat.le_antisymm (isMatchLength_le hmlen h) (isMatchLength_le h hmlen)

theorem matched_of_mlen_eq {input : ByteSeq} {p D maxL L : Nat} (h : mlen input p D maxL = L) :
    ∀ i, i < L → input[p + i]? = input[p + i - D]? := by
  obtain ⟨-, hmatched, -⟩ := (matchLengthIsGreatest input p D maxL L).1 h
  exact hmatched

/-! ### The exhaustive search -/

/-- Only a strictly longer match replaces the best so far (R187). -/
theorem bestFrom_eq_or_longer (input : ByteSeq) (p maxL count D : Nat) (best : Nat × Nat) :
    bestFrom input p maxL count D best = best ∨ best.1 < (bestFrom input p maxL count D best).1 := by
  induction count generalizing D best with
  | zero => exact .inl rfl
  | succ count ih =>
    simp only [bestFrom]
    split
    · next hlt =>
      obtain h | h := ih (D + 1) (mlen input p D maxL, D)
      · exact .inr (by rw [h]; exact hlt)
      · exact .inr (hlt.trans h)
    · exact ih (D + 1) best

/-- The length and distance `best` are preferred to distance `D`: no shorter, and where equally long no farther
(R187). -/
def Preferred (input : ByteSeq) (p maxL : Nat) (best : Nat × Nat) (D : Nat) : Prop :=
  mlen input p D maxL ≤ best.1 ∧ (mlen input p D maxL = best.1 → best.2 ≤ D)

/-- From a best no farther than the first distance, the search answers one preferred to every distance it tries. -/
theorem preferred_bestFrom (input : ByteSeq) (p maxL count : Nat) {D D' : Nat} {best : Nat × Nat}
    (hbest : best.2 ≤ D) (hlo : D ≤ D') (hhi : D' < D + count) :
    Preferred input p maxL (bestFrom input p maxL count D best) D' := by
  induction count generalizing D best with
  | zero => omega
  | succ count ih =>
    simp only [bestFrom]
    set kept := if best.1 < mlen input p D maxL then (mlen input p D maxL, D) else best with hkept
    obtain ⟨hnear, hlong⟩ : kept.2 ≤ D ∧ mlen input p D maxL ≤ kept.1 := by
      rw [hkept]
      split
      · exact ⟨Nat.le_refl D, Nat.le_refl _⟩
      · next hnot => exact ⟨hbest, Nat.not_lt.1 hnot⟩
    obtain rfl | hlater := Nat.eq_or_lt_of_le hlo
    · obtain h | h := bestFrom_eq_or_longer input p maxL count (D + 1) kept
      · rw [h]
        exact ⟨hlong, fun _ => hnear⟩
      · exact ⟨by omega, by omega⟩
    · exact ih (by omega) hlater (by omega)

/-- `D` is a distance the exhaustive search tries (R181, R183, R186). -/
def Eligible (minDistance p D : Nat) : Prop := minDistance ≤ D ∧ D ≤ min windowSize p

/-- What the exhaustive search answers (R181, R187). -/
theorem findExhaustive_cases {minDistance : Nat} (hmin : 1 ≤ minDistance) (input : ByteSeq) {p n : Nat} (hp : p ≤ n) :
    (findExhaustive minDistance input p n = .ok none ∧
      ∀ D, Eligible minDistance p D → mlen input p D (maxLen p n) < 3) ∨
    ∃ L D, findExhaustive minDistance input p n = .ok (some (.backref L D)) ∧
      mlen input p D (maxLen p n) = L ∧ 3 ≤ L ∧ Eligible minDistance p D ∧
      ∀ D', Eligible minDistance p D' → Preferred input p (maxLen p n) (L, D) D' := by
  unfold findExhaustive
  have hcases := bestFrom_eq_or input p (maxLen p n) (min windowSize p + 1 - minDistance) minDistance (0, 0)
  have hpreferred {D : Nat} (hD : Eligible minDistance p D) := preferred_bestFrom input p (maxLen p n)
    (min windowSize p + 1 - minDistance) (best := (0, 0)) (Nat.zero_le minDistance) hD.1 (by have := hD.2; omega)
  generalize bestFrom input p (maxLen p n) (min windowSize p + 1 - minDistance) minDistance (0, 0) = best
    at hcases hpreferred
  obtain hshort | hlong := Nat.lt_or_ge best.1 minMatch
  · exact .inl ⟨if_pos hshort, fun D hD => (hpreferred hD).1.trans_lt hshort⟩
  · obtain rfl | ⟨D, hlo, hhi, rfl⟩ := hcases
    · cases hlong
    · have hD : Eligible minDistance p D := ⟨hlo, by omega⟩
      obtain ⟨hvalid, -⟩ := tokenFits_backref hlong (mlen_le ..) (hmin.trans hlo) hD.2 hp
      refine .inr ⟨_, D, ?_, rfl, hlong, hD, fun _ => hpreferred⟩
      simp only [if_neg (Nat.not_lt.2 hlong), mkMatch_eq, if_pos hvalid]

/-! ### FIND_MATCH -/

theorem exec_findMatch_none {s : State} {input : ByteSeq} {p : Nat} (hp : p ≤ input.length)
    (h : findMatch s.cfg s.idx input p input.length = .ok none) :
    exec (.findMatch input p input.length) s = .next { s with ures := .noMatch } := by
  rw [exec, execFindMatch, if_pos ⟨rfl, hp⟩, h]
  rfl

theorem exec_findMatch_some {s : State} {input : ByteSeq} {p : Nat} {t : Token} (hp : p ≤ input.length)
    (h : findMatch s.cfg s.idx input p input.length = .ok (some t)) :
    exec (.findMatch input p input.length) s = .next { s with ures := .token t } := by
  rw [exec, execFindMatch, if_pos ⟨rfl, hp⟩, h]
  rfl

theorem findMatch_exhaustive {cfg : Config} (h : cfg.matchSearch = .exhaustive) (idx : List Nat) (input : ByteSeq)
    (p n : Nat) : findMatch cfg idx input p n = findExhaustive cfg.encMinDist input p n := by
  rw [findMatch, h]

/-- Settles O20: the exhaustive search of `findExhaustive_cases`, its lengths read as greatest match lengths. -/
theorem exhaustiveSearchFindsLongestThenNearest : Obligations.ExhaustiveSearchFindsLongestThenNearest := by
  intro s input p hsearch hcfg hp
  have hfind := findMatch_exhaustive hsearch s.idx input p input.length
  obtain ⟨hnone, hshort⟩ | ⟨L, D, hsome, hL, hlong, ⟨hlo, hhi⟩, hpreferred⟩ := findExhaustive_cases hcfg input hp
  · refine .inl ⟨exec_findMatch_none hp (hfind.trans hnone), fun D L hlo hhi hL => ?_⟩
    rw [← (matchLengthIsGreatest input p D _ L).2 hL]
    exact hshort D ⟨hlo, hhi⟩
  · refine .inr ⟨L, D, exec_findMatch_some hp (hfind.trans hsome), hlong, hlo, hhi,
      (matchLengthIsGreatest input p D _ L).1 hL, ?_⟩
    intro D' L' hlo' hhi' hL'
    rw [← (matchLengthIsGreatest input p D' _ L').2 hL']
    exact hpreferred D' ⟨hlo', hhi'⟩

/-! ### Soundness of either search -/

/-- A match at `p` from which a decoder reproduces the input (R188, R189). -/
structure SoundMatch (input : ByteSeq) (p n L D : Nat) : Prop where
  minLength : 3 ≤ L
  maxLength : L ≤ maxLen p n
  minDistance : 1 ≤ D
  maxDistance : D ≤ min windowSize p
  repeats : ∀ i, i < L → input[p + i]? = input[p + i - D]?

/-- Copying a sound match continues the input (R189). -/
theorem SoundMatch.copyLoop_eq {input : ByteSeq} {p L D : Nat} (h : SoundMatch input p input.length L D)
    (hp : p ≤ input.length) : copyLoop D L (input.take p) = input.take (p + L) := by
  have hlen : L ≤ input.length - p := (le_min_iff.1 h.maxLength).2
  exact copyLoop_take (by omega) h.repeats h.minDistance (le_min_iff.1 h.maxDistance).2

theorem findExhaustive_sound {minDistance : Nat} (hmin : 1 ≤ minDistance) (input : ByteSeq) {p n : Nat} (hp : p ≤ n) :
    findExhaustive minDistance input p n = .ok none ∨
      ∃ L D, findExhaustive minDistance input p n = .ok (some (.backref L D)) ∧ SoundMatch input p n L D := by
  obtain ⟨hnone, -⟩ | ⟨L, D, hsome, rfl, hlong, ⟨hlo, hhi⟩, -⟩ := findExhaustive_cases hmin input hp
  · exact .inl hnone
  · exact .inr ⟨_, D, hsome, hlong, mlen_le .., hmin.trans hlo, hhi, matched_of_mlen_eq rfl⟩

/-- The proposal is free, and answered only where it meets R189 (R190). -/
theorem findAnySound_sound (idx : List Nat) (input : ByteSeq) (p n : Nat) :
    findAnySound idx input p n = .ok none ∨
      ∃ L D, findAnySound idx input p n = .ok (some (.backref L D)) ∧ SoundMatch input p n L D := by
  unfold findAnySound
  split
  · exact .inl rfl
  · next L D _ =>
    split
    · next hsound =>
      obtain ⟨hlong, hcap, hlo, hhi, hmlen⟩ := of_decide_eq_true hsound
      exact .inr ⟨L, D, rfl, hlong, hcap, hlo, hhi, matched_of_mlen_eq hmlen⟩
    · exact .inl rfl

theorem findMatch_sound {cfg : Config} (hcfg : cfg.wf) (idx : List Nat) (input : ByteSeq) {p n : Nat} (hp : p ≤ n) :
    findMatch cfg idx input p n = .ok none ∨
      ∃ L D, findMatch cfg idx input p n = .ok (some (.backref L D)) ∧ SoundMatch input p n L D := by
  unfold findMatch
  split
  · exact findExhaustive_sound hcfg input hp
  · exact findAnySound_sound idx input p n

/-- Settles O21: either search answers a sound match, and copying one continues the input. -/
theorem everySearchIsSound : Obligations.EverySearchIsSound := by
  intro s input p hcfg hp
  obtain hnone | ⟨L, D, hsome, hsound⟩ := findMatch_sound hcfg s.idx input hp
  · exact .inl (exec_findMatch_none hp hnone)
  · exact .inr ⟨L, D, exec_findMatch_some hp hsome, hsound.minLength, hsound.maxLength, hsound.minDistance,
      hsound.maxDistance, hsound.copyLoop_eq hp⟩

end Sys2Proof.Machine
end

section
/-! SUPPORT. The parsing policy (44_lz77_encoder_parser.md R212 to R216): what each mode makes of the finder's answers, and
that every token it answers continues the input, whatever the configuration. -/

namespace Sys2Proof.Machine

/-! ### The finder under any configuration -/

/-- A match of the exhaustive search has passed MK_MATCH, so it is sound even where distance 0 was tried (R181, R189). -/
theorem soundMatch_of_findExhaustive {minDistance : Nat} {input : ByteSeq} {p n : Nat} {t : Token}
    (h : findExhaustive minDistance input p n = .ok (some t)) : ∃ L D, t = .backref L D ∧ SoundMatch input p n L D := by
  unfold findExhaustive at h
  have hcases := bestFrom_eq_or input p (maxLen p n) (min windowSize p + 1 - minDistance) minDistance (0, 0)
  generalize bestFrom input p (maxLen p n) (min windowSize p + 1 - minDistance) minDistance (0, 0) = best at h hcases
  obtain hshort | hlong := Nat.lt_or_ge best.1 minMatch
  · simp only [if_pos hshort, Except.ok.injEq, reduceCtorEq] at h
  · obtain rfl | ⟨D, hlo, hhi, rfl⟩ := hcases
    · cases hlong
    · simp only [if_neg (Nat.not_lt.2 hlong), mkMatch_eq] at h
      by_cases hvalid : (Token.backref (mlen input p D (maxLen p n)) D).valid = true
      · simp only [if_pos hvalid, Except.ok.injEq, Option.some.injEq] at h
        obtain ⟨-, -, hD, -⟩ := (valid_backref_iff _ D).1 hvalid
        exact ⟨_, D, h.symm, hlong, mlen_le .., hD, by omega, matched_of_mlen_eq rfl⟩
      · simp only [if_neg hvalid, reduceCtorEq] at h

/-- Every match of either search is sound, the configuration legal or not (R189, R190). -/
theorem soundMatch_of_findMatch {cfg : Config} {idx : List Nat} {input : ByteSeq} {p n : Nat} {t : Token}
    (h : findMatch cfg idx input p n = .ok (some t)) : ∃ L D, t = .backref L D ∧ SoundMatch input p n L D := by
  unfold findMatch at h
  split at h
  · exact soundMatch_of_findExhaustive h
  · obtain hnone | ⟨L, D, hsome, hsound⟩ := findAnySound_sound idx input p n
    · cases hnone.symm.trans h
    · cases hsome.symm.trans h
      exact ⟨L, D, rfl, hsound⟩

theorem mkMatch_error {L D : Nat} {e : EncodeError} (h : mkMatch L D = .error e) : e = .outOfRange := by
  unfold mkMatch at h
  split at h <;> cases h
  rfl

/-- The finder fails with MK_MATCH's error only (R216). -/
theorem findMatch_error {cfg : Config} {idx : List Nat} {input : ByteSeq} {p n : Nat} {e : EncodeError}
    (h : findMatch cfg idx input p n = .error e) : e = .outOfRange := by
  unfold findMatch at h
  split at h
  · simp only [findExhaustive] at h
    split at h
    · cases h
    · split at h
      · cases h
      · next hmk => cases h; exact mkMatch_error hmk
  · obtain hnone | ⟨L, D, hsome, -⟩ := findAnySound_sound idx input p n
    · cases hnone.symm.trans h
    · cases hsome.symm.trans h

/-! ### The two policies -/

section Policies

variable {cfg : Config} {idx : List Nat} {input : ByteSeq} {p n : Nat}

theorem chooseGreedy_of_noMatch (h : findMatch cfg idx input p n = .ok none) :
    chooseGreedy cfg idx input p n = .ok (literalAt input p) := by
  rw [chooseGreedy, h]

theorem chooseGreedy_of_match {t : Token} (h : findMatch cfg idx input p n = .ok (some t)) :
    chooseGreedy cfg idx input p n = .ok (some t) := by
  rw [chooseGreedy, h]

theorem chooseLazy_of_noMatch (h : findMatch cfg idx input p n = .ok none) :
    chooseLazy cfg idx input p n = .ok (literalAt input p) := by
  rw [chooseLazy, h]

theorem chooseLazy_of_onlyMatch {t0 : Token} (h0 : findMatch cfg idx input p n = .ok (some t0))
    (h1 : findMatch cfg idx input (p + 1) n = .ok none) : chooseLazy cfg idx input p n = .ok (some t0) := by
  simp only [chooseLazy, h0, h1]

theorem chooseLazy_of_matches {t0 t1 : Token} (h0 : findMatch cfg idx input p n = .ok (some t0))
    (h1 : findMatch cfg idx input (p + 1) n = .ok (some t1)) :
    chooseLazy cfg idx input p n = if dlen t0 < dlen t1 then .ok (literalAt input p) else .ok (some t0) := by
  simp only [chooseLazy, h0, h1]

end Policies

theorem literalAt_of_getElem? {input : ByteSeq} {p : Nat} {b : Byte} (h : input[p]? = some b) :
    literalAt input p = some (.literal b) := by
  rw [literalAt, h]
  rfl

/-- Settles O22: the finder answers, and both of its answers give a token. -/
theorem greedyTakesTheMatchOrALiteral : Obligations.GreedyTakesTheMatchOrALiteral := by
  intro s input p b hcfg hb
  obtain ⟨hp, -⟩ := List.getElem?_eq_some_iff.1 hb
  obtain ⟨m, hm, -⟩ := findMatch_ok hcfg s.idx input hp.le
  refine ⟨m, hm, ?_⟩
  rw [exec, execChooseGreedy]
  cases m with
  | none => rw [chooseGreedy_of_noMatch hm, literalAt_of_getElem? hb, onChoice_ok hp]
  | some t => rw [chooseGreedy_of_match hm, onChoice_ok hp]

/-- Settles O23: the finder answers at `p` and at `p + 1`, and the two lengths decide. -/
theorem lazyDefersOnlyToALongerMatch : Obligations.LazyDefersOnlyToALongerMatch := by
  intro s input p b hcfg hb
  obtain ⟨hp, -⟩ := List.getElem?_eq_some_iff.1 hb
  obtain ⟨m0, hm0, -⟩ := findMatch_ok hcfg s.idx input hp.le
  obtain ⟨m1, hm1, -⟩ := findMatch_ok hcfg s.idx input (p := p + 1) hp
  refine ⟨m0, m1, hm0, hm1, ?_⟩
  rw [exec, execChooseLazy]
  cases m0 with
  | none => rw [chooseLazy_of_noMatch hm0, literalAt_of_getElem? hb, onChoice_ok hp]
  | some t0 =>
    cases m1 with
    | none => rw [chooseLazy_of_onlyMatch hm0 hm1, onChoice_ok hp]
    | some t1 =>
      rw [chooseLazy_of_matches hm0 hm1, literalAt_of_getElem? hb]
      by_cases hlonger : dlen t0 < dlen t1
      · simp only [if_pos hlonger, onChoice_ok hp]
      · simp only [if_neg hlonger, onChoice_ok hp]

/-! ### The token of either policy -/

/-- What a policy can do: fail as the finder does, take the literal, or take the finder's match at `p` (R213, R214). -/
theorem choose_cases (cfg : Config) (mode : Mode) (idx : List Nat) (input : ByteSeq) (p n : Nat) :
    choose cfg mode idx input p n = .error .outOfRange ∨
      choose cfg mode idx input p n = .ok (literalAt input p) ∨
      ∃ t, findMatch cfg idx input p n = .ok (some t) ∧ choose cfg mode idx input p n = .ok (some t) := by
  cases h0 : findMatch cfg idx input p n with
  | error e =>
    obtain rfl := findMatch_error h0
    cases mode <;> simp only [choose, chooseGreedy, chooseLazy, h0, true_or]
  | ok m0 =>
    match mode, m0 with
    | .greedy, none => exact .inr (.inl (chooseGreedy_of_noMatch h0))
    | .greedy, some t0 => exact .inr (.inr ⟨t0, rfl, chooseGreedy_of_match h0⟩)
    | .lazy, none => exact .inr (.inl (chooseLazy_of_noMatch h0))
    | .lazy, some t0 =>
      rw [choose]
      cases h1 : findMatch cfg idx input (p + 1) n with
      | error e =>
        obtain rfl := findMatch_error h1
        simp only [chooseLazy, h0, h1, true_or]
      | ok m1 =>
        cases m1 with
        | none => exact .inr (.inr ⟨t0, rfl, chooseLazy_of_onlyMatch h0 h1⟩)
        | some t1 =>
          rw [chooseLazy_of_matches h0 h1]
          split
          · exact .inr (.inl rfl)
          · exact .inr (.inr ⟨t0, rfl, rfl⟩)

/-- A token that continues the input from `p`: it fits, and decoding it behind `in[0..p)` gives the bytes it covers
(R188, R216). -/
structure SoundToken (input : ByteSeq) (p : Nat) (t : Token) : Prop where
  fits : TokensFit input.length p [t]
  appends : appendToken (input.take p) t = input.take (p + dlen t)

theorem SoundToken.tokenFits {input : ByteSeq} {p : Nat} {t : Token} (h : SoundToken input p t) :
    TokenFits p input.length t :=
  ⟨by simpa using h.fits.valid, h.fits.within⟩

theorem soundToken_literal {input : ByteSeq} {p : Nat} (hp : p < input.length) :
    SoundToken input p (.literal input[p]) :=
  ⟨tokensFit_literal_iff.2 hp, List.take_append_getElem hp⟩

theorem SoundMatch.soundToken {input : ByteSeq} {p L D : Nat} (h : SoundMatch input p input.length L D)
    (hp : p ≤ input.length) : SoundToken input p (.backref L D) := by
  obtain ⟨hvalid, hwithin⟩ := tokenFits_backref h.minLength h.maxLength h.minDistance h.maxDistance hp
  exact ⟨tokensFit_backref_iff.2 ⟨hvalid, hwithin, (le_min_iff.1 h.maxDistance).2⟩, h.copyLoop_eq hp⟩

/-- Where a byte is left a policy fails with `OutOfRange` or answers a token that continues the input, under any
configuration (R215, R216). -/
theorem choose_sound (cfg : Config) (mode : Mode) (idx : List Nat) {input : ByteSeq} {p : Nat} (hp : p < input.length) :
    choose cfg mode idx input p input.length = .error .outOfRange ∨
      ∃ c, choose cfg mode idx input p input.length = .ok (some c) ∧ SoundToken input p c := by
  obtain herror | hliteral | ⟨t, hfind, htake⟩ := choose_cases cfg mode idx input p input.length
  · exact .inl herror
  · rw [literalAt_of_lt hp] at hliteral
    exact .inr ⟨_, hliteral, soundToken_literal hp⟩
  · obtain ⟨L, D, rfl, hmatch⟩ := soundMatch_of_findMatch hfind
    exact .inr ⟨_, htake, hmatch.soundToken hp.le⟩

end Sys2Proof.Machine
end

section
/-! SUPPORT. The encoder's steps (44_lz77_encoder_parser.md R211, R215, R219): what each instruction answers in the phase
that selects it. -/

namespace Sys2Proof.Machine

section EncoderPhase

variable {s : State} (hb : s.blk = .busy) (hop : s.op = .compress)
include hb hop

/-! ### The start step -/

theorem exec_encStart_of_le (hd : s.eph = .start) (hn : s.n ≤ maxSize) : exec .encStart s =
    .next { s with eout := headerBytes s.cfg.tag s.n, eph := if s.n = 0 then .done else .parse } :=
  execEncStart_next_iff.2 ⟨(encoderIn_iff s _).2 ⟨hb, hop, hd⟩, .inr ⟨hn, rfl⟩⟩

theorem exec_encStart_of_gt (hd : s.eph = .start) (hn : maxSize < s.n) :
    exec .encStart s = .next (raise (.enc .sizeTooLarge) s) :=
  execEncStart_next_iff.2 ⟨(encoderIn_iff s _).2 ⟨hb, hop, hd⟩, .inl ⟨hn, rfl⟩⟩

/-! ### The parse step -/

theorem exec_encParse_of_error {e : EncodeError} (hd : s.eph = .parse)
    (hc : choose s.cfg s.emode s.idx s.inp s.p s.n = .error e) : exec .encParse s = .next (raise (.enc e) s) :=
  execEncParse_next_iff.2 ⟨(encoderIn_iff s _).2 ⟨hb, hop, hd⟩, .inl ⟨e, hc, rfl⟩⟩

theorem exec_encParse_of_token {c : Token} (hd : s.eph = .parse)
    (hc : choose s.cfg s.emode s.idx s.inp s.p s.n = .ok (some c)) (hvalid : c.valid = true) :
    exec .encParse s = .next (endOfInput (groupOutIfFull (pushToken c s))) :=
  execEncParse_next_iff.2
    ⟨(encoderIn_iff s _).2 ⟨hb, hop, hd⟩, .inr (.inr ⟨c, c, hc, construct_of_valid hvalid, rfl⟩)⟩

/-! ### The flush step -/

theorem exec_encFlush (hd : s.eph = .flush) : exec .encFlush s = .next (endFlush (groupOut s)) :=
  execEncFlush_next_iff.2 ⟨(encoderIn_iff s _).2 ⟨hb, hop, hd⟩, rfl⟩

end EncoderPhase

/-- Settles O36: the header of a size that fits, `SizeTooLarge` for any other. -/
theorem encoderStartStep : Obligations.EncoderStartStep :=
  fun _ hb hop hd => ⟨exec_encStart_of_le hb hop hd, exec_encStart_of_gt hb hop hd⟩

theorem choose_error {cfg : Config} {mode : Mode} {idx : List Nat} {input : ByteSeq} {p n : Nat} {e : EncodeError}
    (h : choose cfg mode idx input p n = .error e) : e = .outOfRange := by
  obtain herror | hliteral | ⟨t, -, htake⟩ := choose_cases cfg mode idx input p n
  · cases herror.symm.trans h; rfl
  · cases hliteral.symm.trans h
  · cases htake.symm.trans h

/-- The state after a token, register by register: a group it fills is written, and the end of the input is seen
(R215, R218). -/
theorem parsed_eq {s : State} (hd : s.eph = .parse) (c : Token) :
    endOfInput (groupOutIfFull (pushToken c s)) =
      { s with
        p := s.p + dlen c
        grp := if s.grp.length + 1 = 8 then [] else s.grp ++ [c]
        eout := if s.grp.length + 1 = 8 then s.eout ++ writeTokens (s.grp ++ [c]) else s.eout
        idx := s.idx ++ List.range' s.p (dlen c)
        eph :=
          if s.p + dlen c = s.n then (if s.grp.length + 1 = 8 then .done else .flush) else .parse } := by
  have hlen : (pushToken c s).grp.length = s.grp.length + 1 := List.length_append
  by_cases hfull : s.grp.length + 1 = 8
  · simp only [groupOutIfFull, hlen, if_pos hfull, endOfInput, groupOut_grp, groupOut_eph, pushToken_eph, hd,
      List.length_nil, Nat.lt_irrefl, if_false]
    rfl
  · simp only [groupOutIfFull, hlen, if_neg hfull, endOfInput, pushToken_eph, hd, Nat.succ_pos, if_true]
    rfl

/-- Settles O37: the policy's token is valid and fits, so its constructor answers it. -/
theorem encoderParseStep : Obligations.EncoderParseStep := by
  intro s hb hop hd
  constructor
  · intro e he
    change choose s.cfg s.emode s.idx s.inp s.p s.n = .error e at he
    obtain rfl := choose_error he
    exact ⟨rfl, exec_encParse_of_error hb hop hd he⟩
  · intro hcfg hp hlen
    obtain ⟨c, hc, hvalid, hfits⟩ := choose_ok hcfg s.emode s.idx hp
    exact ⟨c, hc, hvalid, hfits, by rw [exec_encParse_of_token hb hop hd hc hvalid, parsed_eq hd]⟩

/-- Up to 8 tokens are one group (30_encoding.md R75). -/
theorem writeTokens_of_length_le {ts : List Token} (hne : ts ≠ []) (hlen : ts.length ≤ 8) :
    writeTokens ts = writeGroup ts := by
  rw [writeTokens_of_ne_nil hne, List.take_of_length_le hlen, List.drop_of_length_le hlen, writeTokens_nil,
    List.append_nil]

/-- Settles O38: the group's flag byte has the kinds of its tokens, and no bit for an absent one. -/
theorem encoderFlushStep : Obligations.EncoderFlushStep := by
  intro s hb hop hd
  refine ⟨exec_encFlush hb hop hd, fun hpos hlen => ⟨flagByte s.grp, ?bytes, fun k hk hk8 => ?absent⟩⟩
  case bytes => exact writeTokens_of_length_le (List.ne_nil_of_length_pos hpos) (by omega)
  case absent =>
    have hbit : (flagByte s.grp).getLsbD (7 - k) = s.grp[k]?.any kindBit := flagBit_flagByte (by omega) hk8
    rw [hbit, List.getElem?_eq_none hk]
    rfl

end Sys2Proof.Machine
end

section
/-! SUPPORT. COMPRESS by its steps (44_lz77_encoder_parser.md R221, R226): what the big-step function still answers from a
state of the encoder, and the steps of the machine against it. -/

namespace Sys2Proof.Machine

/-! ### The loop of COMPRESS -/

section ParseLoop

variable {cfg : Config} {mode : Mode} {input : ByteSeq} {idx : List Nat} {p : Nat}

theorem parseLoop_of_end (h : input.length ≤ p) (fuel : Nat) (toks : List Token) :
    parseLoop cfg mode input fuel idx p toks = .ok toks := by
  cases fuel with
  | zero => rfl
  | succ fuel => exact if_neg (Nat.not_lt.2 h)

theorem parseLoop_of_error {e : EncodeError} (hp : p < input.length)
    (hc : choose cfg mode idx input p input.length = .error e) (fuel : Nat) (toks : List Token) :
    parseLoop cfg mode input (fuel + 1) idx p toks = .error e := by
  rw [parseLoop, if_pos hp, hc]

theorem parseLoop_of_token {c : Token} (hp : p < input.length)
    (hc : choose cfg mode idx input p input.length = .ok (some c)) (fuel : Nat) (toks : List Token) :
    parseLoop cfg mode input (fuel + 1) idx p toks =
      parseLoop cfg mode input fuel (idx ++ List.range' p (dlen c)) (p + dlen c) (toks ++ [c]) := by
  rw [parseLoop, if_pos hp, hc]

end ParseLoop

/-- The tokens parsed before stand in front and decide nothing. -/
theorem parseLoop_prepend (cfg : Config) (mode : Mode) (input : ByteSeq) (fuel : Nat) (idx : List Nat) (p : Nat)
    (front toks : List Token) :
    parseLoop cfg mode input fuel idx p (front ++ toks) =
      (parseLoop cfg mode input fuel idx p toks).map (front ++ ·) := by
  induction fuel generalizing idx p toks with
  | zero => rfl
  | succ fuel ih =>
    obtain hp | hend := Nat.lt_or_ge p input.length
    · obtain hc | ⟨c, hc, -⟩ := choose_sound cfg mode idx hp
      · rw [parseLoop_of_error hp hc, parseLoop_of_error hp hc]; rfl
      · rw [parseLoop_of_token hp hc, parseLoop_of_token hp hc, List.append_assoc, ih]
    · rw [parseLoop_of_end hend, parseLoop_of_end hend]; rfl

theorem compressStream_of_le {cfg : Config} {mode : Mode} {input : ByteSeq} (h : input.length ≤ maxSize) :
    compressStream cfg mode input =
      (parseTokens cfg mode input).map (headerBytes cfg.tag input.length ++ writeTokens ·) := by
  rw [compressStream, writeHeader, if_neg (Nat.not_lt.2 h)]
  cases parseTokens cfg mode input <;> rfl

theorem compressStream_of_gt {cfg : Config} {mode : Mode} {input : ByteSeq} (h : maxSize < input.length) :
    compressStream cfg mode input = .error .sizeTooLarge := by
  rw [compressStream, writeHeader, if_pos h]

/-! ### What COMPRESS still answers -/

/-- What COMPRESS answers from an encoder's state on, with fuel for the tokens to come: the output written, then the
pending tokens and those parsed from `p` on. -/
def compressRest (fuel : Nat) (s : State) : Except EncodeError ByteSeq :=
  (parseLoop s.cfg s.emode s.inp fuel s.idx s.p s.grp).map (s.eout ++ writeTokens ·)

/-- A full group is written on its own (R123). -/
theorem writeTokens_append {ts : List Token} (h : ts.length = 8) (us : List Token) :
    writeTokens (ts ++ us) = writeTokens ts ++ writeTokens us := by
  have hne : ts ≠ [] := List.ne_nil_of_length_pos (by omega)
  rw [writeTokens_of_ne_nil (List.append_ne_nil_of_left_ne_nil hne us), List.take_left' h, List.drop_left' h,
    writeTokens_of_length_le hne h.le]

/-- Writing a full group at once writes what COMPRESS writes at the end (R218). -/
theorem compressRest_groupOutIfFull (fuel : Nat) (s : State) :
    compressRest fuel (groupOutIfFull s) = compressRest fuel s := by
  unfold groupOutIfFull
  split
  · next hfull =>
    have hsplit := parseLoop_prepend s.cfg s.emode s.inp fuel s.idx s.p s.grp []
    rw [List.append_nil] at hsplit
    rw [compressRest, compressRest, hsplit]
    simp only [groupOut_cfg, groupOut_emode, groupOut_inp, groupOut_idx, groupOut_p, groupOut_grp, groupOut_eout]
    cases parseLoop s.cfg s.emode s.inp fuel s.idx s.p [] with
    | error e => rfl
    | ok toks => simp only [Except.map, writeTokens_append hfull, List.append_assoc]
  · rfl

theorem compressRest_of_end {s : State} (h : s.p = s.n) (fuel : Nat) :
    compressRest fuel s = .ok (s.eout ++ writeTokens s.grp) := by
  rw [compressRest, parseLoop_of_end h.ge]
  rfl

theorem compressRest_of_error {s : State} {e : EncodeError} (hp : s.p < s.n)
    (hc : choose s.cfg s.emode s.idx s.inp s.p s.n = .error e) (fuel : Nat) :
    compressRest (fuel + 1) s = .error e := by
  rw [compressRest, parseLoop_of_error hp hc]
  rfl

/-- One turn of the loop is the parse step's update (R215). -/
theorem compressRest_of_token {s : State} {c : Token} (hp : s.p < s.n)
    (hc : choose s.cfg s.emode s.idx s.inp s.p s.n = .ok (some c)) (fuel : Nat) :
    compressRest (fuel + 1) s = compressRest fuel (endOfInput (groupOutIfFull (pushToken c s))) := by
  have hrest : compressRest fuel (endOfInput (groupOutIfFull (pushToken c s))) =
      compressRest fuel (groupOutIfFull (pushToken c s)) := rfl
  rw [hrest, compressRest_groupOutIfFull, compressRest, parseLoop_of_token hp hc]
  rfl

/-! ### The steps of the machine -/

/-- A COMPRESS is running and the host is quiet. -/
structure Compressing (s : State) : Prop where
  busy : s.blk = .busy
  op : s.op = .compress
  quiet : s.host = []

/-- A running encoder between two tokens behind the header. -/
structure BetweenTokens (s : State) : Prop extends Compressing s where
  within : s.p ≤ s.n
  phase : s.eph = if s.p = s.n then (if 0 < s.grp.length then .flush else .done) else .parse

theorem betweenTokens_endOfInput {s : State} (hs : Compressing s) (hd : s.eph = .parse) (hp : s.p ≤ s.n) :
    BetweenTokens (endOfInput s) := by
  refine ⟨⟨hs.busy, hs.op, hs.quiet⟩, hp, ?_⟩
  change (if s.p = s.n then _ else s.eph) = _
  rw [hd]
  rfl

theorem BetweenTokens.parsed {s : State} {c : Token} (hat : BetweenTokens s) (hd : s.eph = .parse)
    (hfits : s.p + dlen c ≤ s.n) : BetweenTokens (endOfInput (groupOutIfFull (pushToken c s))) :=
  betweenTokens_endOfInput ⟨by simpa using hat.busy, by simpa using hat.op, by simpa using hat.quiet⟩
    (by simpa using hd) (by simpa [State.n] using hfits)

/-- Behind the header no token is pending (R211). -/
theorem betweenTokens_header {s : State} (hs : Compressing s) (hp : s.p = 0) (hgrp : s.grp = []) :
    BetweenTokens { s with eout := headerBytes s.cfg.tag s.n, eph := if s.n = 0 then .done else .parse } := by
  refine ⟨⟨hs.busy, hs.op, hs.quiet⟩, ?_, ?_⟩
  · simp only [hp, Nat.zero_le]
  · simp only [hp, hgrp, List.length_nil, Nat.lt_irrefl, if_false, eq_comm (a := 0)]

section Phases

variable {s : State} (hs : Compressing s)
include hs

theorem Compressing.step_start (hd : s.eph = .start) : step s = exec .encStart s := by
  obtain ⟨-, h, -, -⟩ := stepRunsThePhaseSelectedStep s hs.busy hs.quiet
  exact h hs.op hd

theorem Compressing.step_parse (hd : s.eph = .parse) : step s = exec .encParse s := by
  obtain ⟨-, -, h, -⟩ := stepRunsThePhaseSelectedStep s hs.busy hs.quiet
  exact h hs.op hd

theorem Compressing.step_flush (hd : s.eph = .flush) : step s = exec .encFlush s := by
  obtain ⟨-, -, -, h⟩ := stepRunsThePhaseSelectedStep s hs.busy hs.quiet
  exact h hs.op hd

theorem Compressing.endsWith_done (hd : s.eph = .done) : endsWith 1 (outcome .enc (.ok s.eout)) s :=
  endsWith_of_step (step_completes hs.busy hs.quiet (complete_some_iff.2 (.inr (.inr (.inl ⟨hs.op, hd, rfl⟩)))))
    (endsWith_idle rfl rfl rfl)

theorem Compressing.endsWith_of_raise {e : EncodeError} (h : step s = .next (raise (.enc e) s)) :
    endsWith 2 (outcome .enc (.error e)) s :=
  endsWith_of_step h <| endsWith_of_step
    (step_completes hs.busy hs.quiet (complete_some_iff.2 (.inr (.inr (.inr ⟨hs.op, rfl, rfl⟩)))))
    (endsWith_idle rfl rfl rfl)

theorem Compressing.endsWith_flush (hd : s.eph = .flush) :
    endsWith 2 (outcome .enc (.ok (s.eout ++ writeTokens s.grp))) s :=
  endsWith_of_step ((hs.step_flush hd).trans (exec_encFlush hs.busy hs.op hd))
    (Compressing.endsWith_done ⟨hs.busy, hs.op, hs.quiet⟩ rfl)

end Phases

/-- At the end of the input the pending group is flushed, and the command completed (R217, R219, R220). -/
theorem BetweenTokens.endsWith_of_end {s : State} (hat : BetweenTokens s) (hend : s.p = s.n) :
    endsWith 2 (outcome .enc (.ok (s.eout ++ writeTokens s.grp))) s := by
  have hs := hat.toCompressing
  have hphase := hat.phase
  rw [if_pos hend] at hphase
  obtain hnone | hpending := Nat.eq_zero_or_pos s.grp.length
  · rw [if_neg (by omega)] at hphase
    have hdone := hs.endsWith_done hphase
    rw [List.length_eq_zero_iff.1 hnone, writeTokens_nil, List.append_nil]
    exact endsWith_mono (by omega) hdone
  · rw [if_pos hpending] at hphase
    exact hs.endsWith_flush hphase

/-- The machine ends with what COMPRESS still answers, one step a token. -/
theorem BetweenTokens.endsWith_compressRest {fuel : Nat} {s : State} (hat : BetweenTokens s)
    (hfuel : s.n ≤ s.p + fuel) :
    endsWith ((s.n - s.p) + 2) (outcome .enc (compressRest fuel s)) s := by
  induction fuel generalizing s with
  | zero =>
    have hend : s.p = s.n := Nat.le_antisymm hat.within hfuel
    rw [compressRest_of_end hend]
    exact endsWith_mono (by omega) (hat.endsWith_of_end hend)
  | succ fuel ih =>
    obtain hend | hp := Nat.eq_or_lt_of_le hat.within
    · rw [compressRest_of_end hend]
      exact endsWith_mono (by omega) (hat.endsWith_of_end hend)
    have hs := hat.toCompressing
    have hd : s.eph = .parse := by rw [hat.phase, if_neg (Nat.ne_of_lt hp)]
    obtain hc | ⟨c, hc, hsound⟩ := choose_sound s.cfg s.emode s.idx hp
    · rw [compressRest_of_error hp hc]
      exact endsWith_mono (by omega)
        (hs.endsWith_of_raise ((hs.step_parse hd).trans (exec_encParse_of_error hs.busy hs.op hd hc)))
    · obtain ⟨hvalid, hfits⟩ := hsound.tokenFits
      have hstep := (hs.step_parse hd).trans (exec_encParse_of_token hs.busy hs.op hd hc hvalid)
      set t := endOfInput (groupOutIfFull (pushToken c s)) with ht
      have hn : t.n = s.n := by simp [ht, State.n]
      have hpos : t.p = s.p + dlen c := by simp [ht]
      have hlen := one_le_dlen hvalid
      have hrest := ih (hat.parsed hd hfits) (by rw [← ht, hn, hpos]; omega)
      rw [← ht, hn, hpos] at hrest
      rw [compressRest_of_token hp hc]
      exact endsWith_mono (by omega) (endsWith_of_step hstep hrest)

theorem compressing_started {s : State} (hh : s.host = []) (m : Mode) (input : ByteSeq) :
    Compressing (started .compress m input s) := ⟨rfl, rfl, hh⟩

/-- Settles O55: the start step, then the parse from the header on, the fuel of COMPRESS being enough for it. -/
theorem compressEndsWithBigStep : Obligations.CompressEndsWithBigStep := by
  intro s m input hb hlegal hh
  refine ⟨started .compress m input s, issue_next_iff.2 ⟨hb, hlegal, rfl⟩, ?_⟩
  have hs := compressing_started hh m input
  have hstep := hs.step_start rfl
  obtain hlarge | hsize := Nat.lt_or_ge maxSize input.length
  · rw [compressStream_of_gt hlarge]
    exact endsWith_mono (by omega) (hs.endsWith_of_raise (hstep.trans (exec_encStart_of_gt rfl rfl rfl hlarge)))
  · have hrest := (betweenTokens_header hs rfl rfl).endsWith_compressRest (fuel := input.length) (Nat.le_add_left _ 0)
    rw [compressStream_of_le hsize]
    exact endsWith_mono (by change 1 + ((input.length - 0) + 2) ≤ _; omega)
      (endsWith_of_step (hstep.trans (exec_encStart_of_le rfl rfl rfl hsize)) hrest)

/-- Settles O58: the start step writes the header of size 0 and is DONE. -/
theorem emptyInputGivesHeaderOnly : Obligations.EmptyInputGivesHeaderOnly := by
  intro s m hb hh
  have hlegal : lengthLegal s.cfg 0 = true := by
    unfold lengthLegal
    split
    · rfl
    · exact decide_eq_true (Nat.zero_le _)
  have hs := compressing_started hh m []
  have hbytes : headerBytes s.cfg.tag 0 = [s.cfg.tag, 0, 0, 0] := rfl
  refine ⟨_, issue_next_iff.2 ⟨hb, hlegal, rfl⟩, ?_⟩
  rw [← hbytes]
  exact endsWith_of_step ((hs.step_start rfl).trans (exec_encStart_of_le rfl rfl rfl (Nat.zero_le _)))
    (Compressing.endsWith_done ⟨rfl, rfl, hh⟩ rfl)

end Sys2Proof.Machine
end

section
/-! SUPPORT. The parse of an input (44_lz77_encoder_parser.md R221, R224, R225): its tokens are well formed for the input's
length and stand for the input. -/

namespace Sys2Proof.Machine

/-! ### The parse -/

/-- The tokens parsed up to `p`: a decoder reads them to `in[0..p)`. -/
structure ParsedPrefix (input : ByteSeq) (p : Nat) (toks : List Token) : Prop where
  fits : TokensFit input.length 0 toks
  describes : described toks = p
  expands : expand [] toks = input.take p

theorem parsedPrefix_nil (input : ByteSeq) : ParsedPrefix input 0 [] := ⟨⟨rfl, Nat.zero_le _, rfl⟩, rfl, rfl⟩

theorem ParsedPrefix.push {input : ByteSeq} {p : Nat} {toks : List Token} {t : Token} (h : ParsedPrefix input p toks)
    (ht : SoundToken input p t) : ParsedPrefix input (p + dlen t) (toks ++ [t]) := by
  obtain ⟨hfits, rfl, hexpands⟩ := h
  refine ⟨tokensFit_append.2 ⟨hfits, by rw [Nat.zero_add]; exact ht.fits⟩, ?_, ?_⟩
  · rw [described_append, described_cons, described_nil, Nat.add_zero]
  · rw [expand_append, hexpands, expand_cons, expand_nil, ht.appends]

theorem ParsedPrefix.streamWellFormed {input : ByteSeq} {toks : List Token}
    (h : ParsedPrefix input input.length toks) : streamWellFormed input.length toks = true :=
  streamWellFormed_iff.2 ⟨h.fits, h.describes⟩

/-- A parse that does not fail ends at the end of the input (R217). -/
theorem parsedPrefix_parseLoop {cfg : Config} {mode : Mode} {input : ByteSeq} {fuel : Nat} {idx : List Nat} {p : Nat}
    {front toks : List Token} (hfront : ParsedPrefix input p front) (hfuel : input.length ≤ p + fuel)
    (h : parseLoop cfg mode input fuel idx p front = .ok toks) : ParsedPrefix input input.length toks := by
  have hwithin : p ≤ input.length := by
    have := hfront.fits.within
    rwa [hfront.describes, Nat.zero_add] at this
  induction fuel generalizing idx p front with
  | zero =>
    cases h
    exact Nat.le_antisymm hwithin hfuel ▸ hfront
  | succ fuel ih =>
    obtain rfl | hp := Nat.eq_or_lt_of_le hwithin
    · rw [parseLoop_of_end le_rfl] at h
      cases h
      exact hfront
    · obtain hc | ⟨c, hc, hsound⟩ := choose_sound cfg mode idx hp
      · rw [parseLoop_of_error hp hc] at h
        cases h
      · obtain ⟨hvalid, hfits⟩ := hsound.tokenFits
        have hlen := one_le_dlen hvalid
        rw [parseLoop_of_token hp hc] at h
        exact ih (hfront.push hsound) (by omega) h hfits

theorem parsedPrefix_parseTokens {cfg : Config} {mode : Mode} {input : ByteSeq} {toks : List Token}
    (h : parseTokens cfg mode input = .ok toks) : ParsedPrefix input input.length toks :=
  parsedPrefix_parseLoop (parsedPrefix_nil input) (Nat.le_add_left _ 0) h

/-- A legal configuration never fails (R216). -/
theorem parseLoop_ok {cfg : Config} (hcfg : cfg.wf) (mode : Mode) (input : ByteSeq) (fuel : Nat) (idx : List Nat)
    (p : Nat) (front : List Token) : ∃ toks, parseLoop cfg mode input fuel idx p front = .ok toks := by
  induction fuel generalizing idx p front with
  | zero => exact ⟨front, rfl⟩
  | succ fuel ih =>
    obtain hp | hend := Nat.lt_or_ge p input.length
    · obtain ⟨c, hc, -⟩ := choose_ok hcfg mode idx hp
      rw [parseLoop_of_token hp hc]
      exact ih ..
    · exact ⟨front, parseLoop_of_end hend ..⟩

/-! ### The compressed stream -/

/-- Settles O56: the parse's tokens are well formed for the input's length, and stand for the whole input. -/
theorem decodeOfCompressIsTheInput : Obligations.DecodeOfCompressIsTheInput := by
  intro cfg m b hcfg hlen
  obtain ⟨toks, htoks⟩ : ∃ toks, parseTokens cfg m b = .ok toks := parseLoop_ok hcfg m b ..
  have hparsed := parsedPrefix_parseTokens htoks
  have hsize : b.length ≤ maxSize := Nat.le_of_lt_succ hlen
  have hdec := decodeStream_assembled hsize hparsed.streamWellFormed cfg.tag []
  rw [List.append_nil, hparsed.expands, List.take_length] at hdec
  exact ⟨_, by rw [compressStream_of_le hsize, htoks]; rfl, hdec⟩

theorem compressStream_ok {cfg : Config} {mode : Mode} {input bs : ByteSeq}
    (h : compressStream cfg mode input = .ok bs) :
    input.length ≤ maxSize ∧ ∃ toks, parseTokens cfg mode input = .ok toks ∧
      bs = headerBytes cfg.tag input.length ++ writeTokens toks := by
  obtain hlarge | hsize := Nat.lt_or_ge maxSize input.length
  · rw [compressStream_of_gt hlarge] at h
    cases h
  · rw [compressStream_of_le hsize] at h
    cases htoks : parseTokens cfg mode input with
    | error e => rw [htoks] at h; cases h
    | ok toks => rw [htoks] at h; cases h; exact ⟨hsize, toks, rfl, rfl⟩

/-- A literal describes one byte, a match three or more (40_token_codec.md R108). -/
theorem length_add_countP_le_described {toks : List Token} (hvalid : toks.all Token.valid = true) :
    toks.length + 2 * toks.countP kindBit ≤ described toks := by
  induction toks with
  | nil => exact Nat.le_refl 0
  | cons t ts ih =>
    rw [List.all_cons, Bool.and_eq_true] at hvalid
    obtain ⟨ht, hts⟩ := hvalid
    have hrest := ih hts
    rw [List.length_cons, List.countP_cons, described_cons]
    cases t with
    | literal b => simp only [kindBit, dlen, Bool.false_eq_true, if_false]; omega
    | backref L D =>
      have hL := (valid_backref_iff L D).1 ht
      simp only [kindBit, dlen, if_true]
      omega

/-- The size field of a header holds the size (30_encoding.md R73, R74). -/
theorem headerBytes_eq {size : Nat} (h : size ≤ maxSize) (tag : Byte) :
    ∃ b1 b2 b3, headerBytes tag size = [tag, b1, b2, b3] ∧
      b1.toNat + 256 * b2.toNat + 65536 * b3.toNat = size := by
  refine ⟨_, _, _, rfl, ?_⟩
  rw [← headerSize_toNat, headerSize_of_size, BitVec.toNat_ofNat]
  exact Nat.mod_eq_of_lt (Nat.lt_succ_of_le h)

/-- Settles O57: the header of the input's length, then the groups of tokens that describe as many bytes. -/
theorem compressedHeaderAndLength : Obligations.CompressedHeaderAndLength := by
  intro cfg m b bs _ h
  obtain ⟨hsize, toks, htoks, rfl⟩ := compressStream_ok h
  obtain ⟨b1, b2, b3, hheader, hfield⟩ := headerBytes_eq hsize cfg.tag
  have hparsed := parsedPrefix_parseTokens htoks
  have hdescribed := length_add_countP_le_described hparsed.fits.valid
  have hcount : toks.countP kindBit ≤ toks.length := List.countP_le_length
  have hlength : (headerBytes cfg.tag b.length ++ writeTokens toks).length =
      4 + ((toks.length + 7) / 8 + (toks.length + toks.countP kindBit)) := by
    rw [List.length_append, length_writeTokens, length_payloads]
    rfl
  rw [hparsed.describes] at hdescribed
  exact ⟨⟨b1, b2, b3, writeTokens toks, by rw [hheader]; rfl, hfield⟩, ⟨toks, htoks, by omega⟩, by omega⟩

end Sys2Proof.Machine
end

section
/-! SUPPORT. The refusals of the two host commands and their completion (45_host_interface.md R240, R243; 60_exceptions.md
R274 b). -/

namespace Sys2Proof.Machine

/-! ### Refused commands -/

theorem issue_of_busy {s : State} (hb : s.blk = .busy) (o : Op) (m : Mode) (input : ByteSeq) :
    issue o m input s = .refused .commandWhileBusy := by
  simp only [issue, hb]

theorem lengthLegal_of_bound {cfg : Config} {bound : Nat} (h : cfg.maxInLen = some bound) (len : Nat) :
    lengthLegal cfg len = decide (len ≤ bound) := by
  simp only [lengthLegal, h]

theorem issue_of_tooLong {s : State} {bound : Nat} {input : ByteSeq} (hb : s.blk = .idle)
    (hbound : s.cfg.maxInLen = some bound) (hlong : bound < input.length) (o : Op) (m : Mode) :
    issue o m input s = .refused .inputTooLong := by
  have hillegal : ¬ lengthLegal s.cfg input.length = true := by
    rw [lengthLegal_of_bound hbound, decide_eq_true_iff]
    exact Nat.not_le.2 hlong
  simp only [issue, hb, if_neg hillegal]

/-- Settles O43: both commands are `issue`, which looks at `blk` first and then at the length. -/
theorem commandRefusedWhileBusyOrTooLong : Obligations.CommandRefusedWhileBusyOrTooLong := by
  rintro s m input i (rfl | rfl)
  · exact ⟨fun hb => issue_of_busy hb .compress m input,
      fun bound hb hbound hlong => issue_of_tooLong hb hbound hlong .compress m⟩
  · exact ⟨fun hb => issue_of_busy hb .decompress m input,
      fun bound hb hbound hlong => issue_of_tooLong hb hbound hlong .decompress m⟩

/-! ### Completion -/

/-- Settles O44: an ended unit is completed by the next step, in each of the four cases of `complete_some_iff`. -/
theorem completionWritesTheResult : Obligations.CompletionWritesTheResult := by
  intro s hb hh
  exact ⟨fun hop hd => step_done ⟨hb, hop, hh⟩ hd, fun hop hd => step_failed ⟨hb, hop, hh⟩ hd,
    fun hop he => step_completes hb hh (complete_some_iff.2 (.inr (.inr (.inl ⟨hop, he, rfl⟩)))),
    fun hop he => step_completes hb hh (complete_some_iff.2 (.inr (.inr (.inr ⟨hop, he, rfl⟩))))⟩

end Sys2Proof.Machine
end

section
/-! SUPPORT. Errors as the units record them (60_exceptions.md R262, R266, R272): what a failing decoder step leaves, the
frame of the encoder's instructions, and the status a COMPRESS completes with. -/

namespace Sys2Proof.Machine

/-! ### A failing decoder step -/

theorem boundary_dph_ne_failed (s : State) : (boundary s).dph ≠ .failed := by
  unfold boundary
  split_ifs <;> simp

theorem complete_dph {s t : State} (h : complete s = some t) : t.dph = s.dph := by
  obtain ⟨-, -, rfl⟩ | ⟨-, -, rfl⟩ | ⟨-, -, rfl⟩ | ⟨-, -, rfl⟩ := complete_some_iff.1 h <;> rfl

/-- The decoder enters FAILED only by raising an error: at a fetch, or behind a match payload (42_lz77_decoder.md R156). -/
theorem DecoderStep.eq_raise_of_failed {s t : State} (h : DecoderStep s t) (hs : s.dph ≠ .failed)
    (ht : t.dph = .failed) : ∃ e, t = raise (.dec e) s ∨ t = raise (.dec e) { s with ip := s.ip + 2 } := by
  cases h with
  | header size phase fetched =>
    dsimp only at ht
    split at ht <;> cases ht
  | flagByte f phase fetched => cases ht
  | literal b due fetched => exact absurd ht (boundary_dph_ne_failed _)
  | matchFails e due fetched => exact ⟨e, .inr rfl⟩
  | matchStarts L D due fetched valid distance length => cases ht
  | copy b phase left source =>
    split at ht
    · exact absurd ht (boundary_dph_ne_failed _)
    · exact absurd ht hs
  | fetchFails e sl reading => exact ⟨e, .inl rfl⟩
  | completes t ended => exact absurd ((complete_dph ended).symm.trans ht) hs

/-- Settles O35: the step raised an error, and the failed decoder is completed by the next step. -/
theorem failingStepRecordsOnlyTheError : Obligations.FailingStepRecordsOnlyTheError := by
  intro s t hb hop hh hs h ht
  rw [step_busy hb hh] at h
  obtain ⟨e, rfl | rfl⟩ := (decoderStep_of_unitAction hop h).eq_raise_of_failed hs ht
  · exact ⟨rfl, .inl rfl, step_failed ⟨hb, hop, hh⟩ rfl⟩
  · exact ⟨rfl, .inr rfl, step_failed ⟨hb, hop, hh⟩ rfl⟩

/-! ### Frame of the encoder's instructions -/

/-- What every instruction of the encoder leaves: all but its registers and the index; where it fails, all but the error
and the phase; where it does not, the error (60_exceptions.md R266). -/
structure EncoderFrame (s t : State) : Prop where
  registers : t = { s with eph := t.eph, p := t.p, grp := t.grp, eout := t.eout, eerr := t.eerr, idx := t.idx }
  failing : t.eph = .failed → t = { s with eerr := t.eerr, eph := .failed }
  answering : t.eph ≠ .failed → t.eerr = s.eerr

theorem encoderFrame_raise (e : EncodeError) (s : State) : EncoderFrame s (raise (.enc e) s) :=
  ⟨rfl, fun _ => rfl, fun h => absurd rfl h⟩

/-- Where a step does not fail, an unchanged error register is all the frame asks beside the registers. -/
theorem encoderFrame_of_ne_failed {s t : State} (hph : t.eph ≠ .failed) (herr : t.eerr = s.eerr)
    (h : t = { s with eph := t.eph, p := t.p, grp := t.grp, eout := t.eout, eerr := t.eerr, idx := t.idx }) :
    EncoderFrame s t :=
  ⟨h, fun hfail => absurd hfail hph, fun _ => herr⟩

theorem execEncStart_frame {s t : State} (h : execEncStart s = .next t) :
    EncoderFrame s t ∧ t.p = s.p ∧ t.grp = s.grp ∧ t.idx = s.idx := by
  obtain ⟨-, ⟨-, rfl⟩ | ⟨-, rfl⟩⟩ := execEncStart_next_iff.1 h
  · exact ⟨encoderFrame_raise .sizeTooLarge s, rfl, rfl, rfl⟩
  · exact ⟨encoderFrame_of_ne_failed (by dsimp only; split <;> simp) rfl rfl, rfl, rfl, rfl⟩

theorem endOfInput_eph_ne_failed {s : State} (h : s.eph ≠ .failed) : (endOfInput s).eph ≠ .failed := by
  unfold endOfInput
  split_ifs <;> simp [h]

/-- Parsing a token never fails and leaves the error register alone (44_lz77_encoder_parser.md R215, R218). -/
theorem encoderFrame_parsed {s : State} (hd : s.eph = .parse) (tok : Token) :
    EncoderFrame s (endOfInput (groupOutIfFull (pushToken tok s))) := by
  refine encoderFrame_of_ne_failed (endOfInput_eph_ne_failed (by simp [hd])) (by simp) ?_
  rw [parsed_eq hd]

theorem execEncParse_frame {s t : State} (h : execEncParse s = .next t) : EncoderFrame s t ∧ s.eout <+: t.eout := by
  obtain ⟨hin, ⟨e, -, rfl⟩ | ⟨c, e, -, -, rfl⟩ | ⟨c, tok, -, -, rfl⟩⟩ := execEncParse_next_iff.1 h
  · exact ⟨encoderFrame_raise e s, List.prefix_rfl⟩
  · exact ⟨encoderFrame_raise e s, List.prefix_rfl⟩
  · obtain ⟨-, -, hd⟩ := (encoderIn_iff s .parse).1 hin
    exact ⟨encoderFrame_parsed hd tok, prefix_groupOutIfFull_eout (pushToken tok s)⟩

theorem execEncFlush_frame {s t : State} (h : execEncFlush s = .next t) :
    EncoderFrame s t ∧ s.eout <+: t.eout ∧ t.p = s.p ∧ t.idx = s.idx := by
  obtain ⟨-, rfl⟩ := execEncFlush_next_iff.1 h
  exact ⟨encoderFrame_of_ne_failed (by simp) rfl rfl, List.prefix_append .., rfl, rfl⟩

/-- Settles O39: the frame is common to the three instructions, and each adds the registers it leaves alone. -/
theorem encoderStepsFrame : Obligations.EncoderStepsFrame := by
  rintro s t i (rfl | rfl | rfl) h
  · obtain ⟨frame, hkept⟩ := execEncStart_frame h
    exact ⟨frame.registers, fun _ => hkept, nofun, nofun, frame.failing, frame.answering⟩
  · obtain ⟨frame, hout⟩ := execEncParse_frame h
    exact ⟨frame.registers, nofun, fun _ => hout, nofun, frame.failing, frame.answering⟩
  · obtain ⟨frame, hkept⟩ := execEncFlush_frame h
    exact ⟨frame.registers, nofun, nofun, fun _ => hkept, frame.failing, frame.answering⟩

/-! ### The status of a COMPRESS -/

theorem EncoderStep.blk_eq_or_completes {s t : State} (h : EncoderStep s t) :
    t.blk = s.blk ∨ complete s = some t := by
  cases h with
  | parse tok phase fits => exact .inl (by simp)
  | completes t ended => exact .inr ended
  | _ => exact .inl rfl

/-- An encoder that meets the invariant has failed with `SizeTooLarge` or not at all (R262). -/
theorem State.encoderOk.complete_status {s t : State} (ok : s.encoderOk) (hop : s.op = .compress)
    (h : complete s = some t) : t.status = .ok ∨ t.status = .error (.enc .sizeTooLarge) := by
  obtain ⟨hop', -⟩ | ⟨hop', -⟩ | ⟨-, -, rfl⟩ | ⟨-, hfail, rfl⟩ := complete_some_iff.1 h
  · cases hop.symm.trans hop'
  · cases hop.symm.trans hop'
  · exact .inl rfl
  · obtain ⟨-, ok⟩ := ok
    simp only [hfail] at ok
    obtain ⟨herr, -⟩ := ok
    exact .inr (by rw [finish_status, herr])

/-- A step of a running COMPRESS that leaves BUSY has completed it (45_host_interface.md R243). -/
theorem Inv.unitAction_status {s t : State} (hi : Inv s) (hb : s.blk = .busy) (hop : s.op = .compress)
    (h : (Machine.unitAction s).result = .next t) (hidle : t.blk = .idle) :
    t.status = .ok ∨ t.status = .error (.enc .sizeTooLarge) := by
  have ok := hi.encoder hb hop
  obtain hblk | hended := (encoderStep_of_unitAction hop hi.cfg ok.byteLeft h).blk_eq_or_completes
  · cases hb.symm.trans (hblk.symm.trans hidle)
  · exact ok.complete_status hop hended

/-- Settles O53: a completion reports OK or `SizeTooLarge`, whatever host action the step passes. -/
theorem compressNeverReportsOutOfRange : Obligations.CompressNeverReportsOutOfRange := by
  intro s t hi hb hop h hidle
  obtain ⟨rest, ⟨hidle', -⟩ | ⟨hidle', -⟩ | ⟨-, hu⟩⟩ := step_next_cases h
  · cases hb.symm.trans hidle'
  · cases hb.symm.trans hidle'
  obtain hok | herr := (hi.withHost rest).unitAction_status hb hop hu hidle
  · simp [hok]
  · simp [herr]

end Sys2Proof.Machine
end

section
/-! SUPPORT. The reset state meets the invariant. -/

namespace Sys2Proof.Machine

/-- In IDLE neither unit runs, so the invariant asks nothing of their registers, whatever reset leaves there
(70_reset_and_hazards.md R290). -/
theorem inv_of_idle {s : State} (hidle : s.blk = .idle) (hcfg : s.cfg.wf) (hresult : s.status ≠ .ok → s.output = []) :
    Inv s where
  cfg := hcfg
  decoder hb := nomatch hidle.symm.trans hb
  encoder hb := nomatch hidle.symm.trans hb
  result := hresult

theorem hardware_wf : Config.hardware.wf := by decide

/-- Settles O47: reset is IDLE, its configuration is the legal one of the hardware, and it holds no output. -/
theorem invariantAtReset : Obligations.InvariantAtReset :=
  inv_of_idle rfl hardware_wf fun _ => rfl

end Sys2Proof.Machine
end

section
/-! SUPPORT. Stream elements and their bytes (30_encoding.md sections 2 to 5): `decode` and `encode` are inverse to each
other on the four rows that have an encoding, and the words written out in 95_test_vectors.md. -/

namespace Sys2Proof.Machine

/-! ### From the element to its bytes and back -/

/-- Decoding the payload of a valid match gives the match, whatever follows (R78, R79). -/
theorem decode_packToken_backref {L D : Nat} (h : (Token.backref L D).valid = true) (tag : Byte) (rest : ByteSeq) :
    decode tag (.token true) (packToken (.backref L D) ++ rest) = .ok (.matchRef L D, rest) := by
  obtain ⟨b0, b1, hpack, hL, hD⟩ := packToken_backref h
  rw [hpack, ← hL, ← hD]
  rfl

/-- Decoding an encoding gives the instruction, whatever follows: four rows have an encoding, and only the match's
fields have bounds (R75, R77, R80). -/
theorem decode_of_encode {tag : Byte} {i : Instr} {sl : Slot} {bs : ByteSeq} (rest : ByteSeq) (hwf : i.wf = true)
    (henc : encode tag i = some (sl, bs)) : decode tag sl (bs ++ rest) = .ok (i, rest) := by
  cases i with
  | hdr size => cases henc; exact decode_headerBytes tag size rest
  | flags f => cases henc; rfl
  | lit b => cases henc; rfl
  | matchRef L D => cases henc; exact decode_packToken_backref hwf tag rest
  | _ => cases henc

/-- Settles O5, by cases on the instruction. -/
theorem decodeOfEncodeIsTheInstruction : Obligations.DecodeOfEncodeIsTheInstruction :=
  fun _ _ _ _ rest hwf henc => decode_of_encode rest hwf henc

/-! ### From the bytes to the element and back -/

/-- The header written for a size field is the one the field was read from: its 24 bits are all kept (R73, R74). -/
theorem headerBytes_headerSize (tag b1 b2 b3 : Byte) :
    headerBytes tag (headerSize b1 b2 b3).toNat = [tag, b1, b2, b3] := by
  have hsize : (headerSize b1 b2 b3).toNat ≤ maxSize := Nat.le_of_lt_succ (headerSize b1 b2 b3).isLt
  obtain ⟨c1, c2, c3, hbytes, hfield⟩ := headerBytes_eq hsize tag
  rw [headerSize_toNat] at hfield
  have hb1 := b1.isLt
  have hb2 := b2.isLt
  have hc1 := c1.isLt
  have hc2 := c2.isLt
  obtain rfl : c1 = b1 := BitVec.eq_of_toNat_eq (by omega)
  obtain rfl : c2 = b2 := BitVec.eq_of_toNat_eq (by omega)
  obtain rfl : c3 = b3 := BitVec.eq_of_toNat_eq (by omega)
  exact hbytes

/-- The bytes a header slot accepts: the tag and three bytes of size, then what is left (R71, R73). -/
theorem bytes_of_decode_header {tag : Byte} {bytes rest : ByteSeq} {i : Instr}
    (h : decode tag .header bytes = .ok (i, rest)) :
    ∃ b1 b2 b3, bytes = tag :: b1 :: b2 :: b3 :: rest ∧ i = .hdr (headerSize b1 b2 b3) := by
  obtain ⟨hlen, -⟩ := decode_header_ok h
  match bytes, hlen with
  | b0 :: b1 :: b2 :: b3 :: tail, _ =>
    obtain rfl : b0 = tag := Decidable.byContradiction fun hb =>
      nomatch (decode_of_wrongTag ⟨rfl, b0, _, rfl, hb⟩).symm.trans h
    rw [decode_header_tag] at h
    cases h
    exact ⟨b1, b2, b3, rfl, rfl⟩

/-- Settles O6, slot by slot: a header's three size bytes and a match's two bytes are determined by the fields read
from them, and the other two elements are their byte. -/
theorem encodeOfDecodeIsTheBytes : Obligations.EncodeOfDecodeIsTheBytes := by
  intro tag sl bytes rest i h
  refine ⟨wf_of_decode h, ?_⟩
  match sl, bytes, h with
  | .header, _, h =>
    obtain ⟨b1, b2, b3, rfl, rfl⟩ := bytes_of_decode_header h
    exact ⟨[tag, b1, b2, b3], by rw [encode, headerBytes_headerSize], rfl⟩
  | .flagByte, f :: _, h => cases h; exact ⟨[f], rfl, rfl⟩
  | .token false, b :: _, h => cases h; exact ⟨[b], rfl, rfl⟩
  | .token true, b0 :: b1 :: _, h => cases h; exact ⟨[b0, b1], by rw [encode, packToken_payload], rfl⟩

/-! ### Written-out words -/

/-- Settles O1: each word is the encoding of its element, so decoding reads the element back. -/
theorem writtenOutWordsDecode : Obligations.WrittenOutWordsDecode :=
  ⟨decode_of_encode (i := .hdr 11) [0x40] rfl rfl, decode_of_encode (i := .hdr 4114) [] rfl rfl,
    decode_of_encode (i := .flags 0x40) [0xAB] rfl rfl, decode_of_encode (i := .lit 0xAB) [0x70] rfl rfl,
    decode_of_encode (i := .matchRef 10 1) [] rfl rfl, decode_of_encode (i := .matchRef 3 4096) [] rfl rfl,
    decode_of_encode (i := .matchRef 18 1) [] rfl rfl, decode_of_encode (i := .matchRef 18 4096) [] rfl rfl⟩

end Sys2Proof.Machine
end
